-- ==== Sys2Proof/Word.lean ====
section
/-! DEFINITION. The word types of the H8/300H CPU (spec rules R9, R15, R50): byte, word, longword
and address, and the names of the registers (R40, R41). -/

namespace Sys2Proof

/-- 8 bits (R9). -/
abbrev Byte := BitVec 8

/-- 16 bits (R9). -/
abbrev Word := BitVec 16

/-- 32 bits (R9). -/
abbrev Long := BitVec 32

/-- A 24-bit address, the width of PC and of an effective address (R50, R92). -/
abbrev Addr := BitVec 24

/-- Four bits: the unit in which the spec writes instruction codes (R122). -/
abbrev Nibble := BitVec 4

/-- A 32-bit general register ER0 to ER7 (R40); ER7 is the stack pointer (R43). -/
inductive ER where
  | er0 | er1 | er2 | er3 | er4 | er5 | er6 | er7
  deriving DecidableEq, Repr

/-- An 8-bit register: RnH (bits 15 to 8 of ERn) or RnL (bits 7 to 0) (R41). -/
inductive R8 where
  | h (n : ER)
  | l (n : ER)
  deriving DecidableEq, Repr

/-- A 16-bit register: Rn (bits 15 to 0 of ERn) or the extended register En (bits 31 to 16) (R41). -/
inductive R16 where
  | r (n : ER)
  | e (n : ER)
  deriving DecidableEq, Repr

end Sys2Proof
end

