-- ==== Sys2Proof/Syntax.lean ====
section
/-! DEFINITION. The instructions of the H8/300H CPU: one constructor per row of
spec/opcode_table.json. Operands stand in assembler order, source first. -/

namespace Sys2Proof

/-- The instructions, one constructor per row of the opcode table. A docstring gives the row's
mnemonic, its operand form and its rule. -/
inductive Instr where
  -- Data transfer (40_data_transfer.md)
  /-- `MOV.B Rs,Rd` `0C rs rd` (R201). -/
  | movBReg (rs : R8) (rd : R8)
  /-- `MOV.W Rs,Rd` `0D rs rd` (R202). -/
  | movWReg (rs : R16) (rd : R16)
  /-- `MOV.L ERs,ERd` `0F 1ers 0erd` (R203). -/
  | movLReg (ers : ER) (erd : ER)
  /-- `MOV.B #xx:8,Rd` `F rd imm8` (R204). -/
  | movBImm (imm : BitVec 8) (rd : R8)
  /-- `MOV.W #xx:16,Rd` `79 0 rd imm16` (R205). -/
  | movWImm (imm : BitVec 16) (rd : R16)
  /-- `MOV.L #xx:32,ERd` `7A 0 0erd imm32` (R206). -/
  | movLImm (imm : BitVec 32) (erd : ER)
  /-- `MOV.B @ERs,Rd` `68 0ers rd` (R207). -/
  | movBLoadInd (ers : ER) (rd : R8)
  /-- `MOV.B @(d:16,ERs),Rd` `6E 0ers rd d16` (R207). -/
  | movBLoadDisp16 (d : BitVec 16) (ers : ER) (rd : R8)
  /-- `MOV.B @(d:24,ERs),Rd` `78 0ers 0 6A 2 rd 00 d24` (R207). -/
  | movBLoadDisp24 (d : BitVec 24) (ers : ER) (rd : R8)
  /-- `MOV.B @ERs+,Rd` `6C 0ers rd` (R207). -/
  | movBLoadInc (ers : ER) (rd : R8)
  /-- `MOV.B @aa:8,Rd` `2 rd abs8` (R207). -/
  | movBLoadAbs8 (aa : BitVec 8) (rd : R8)
  /-- `MOV.B @aa:16,Rd` `6A 0 rd abs16` (R207). -/
  | movBLoadAbs16 (aa : BitVec 16) (rd : R8)
  /-- `MOV.B @aa:24,Rd` `6A 2 rd 00 abs24` (R207). -/
  | movBLoadAbs24 (aa : BitVec 24) (rd : R8)
  /-- `MOV.W @ERs,Rd` `69 0ers rd` (R208). -/
  | movWLoadInd (ers : ER) (rd : R16)
  /-- `MOV.W @(d:16,ERs),Rd` `6F 0ers rd d16` (R208). -/
  | movWLoadDisp16 (d : BitVec 16) (ers : ER) (rd : R16)
  /-- `MOV.W @(d:24,ERs),Rd` `78 0ers 0 6B 2 rd 00 d24` (R208). -/
  | movWLoadDisp24 (d : BitVec 24) (ers : ER) (rd : R16)
  /-- `MOV.W @ERs+,Rd` `6D 0ers rd` (R208). -/
  | movWLoadInc (ers : ER) (rd : R16)
  /-- `MOV.W @aa:16,Rd` `6B 0 rd abs16` (R208). -/
  | movWLoadAbs16 (aa : BitVec 16) (rd : R16)
  /-- `MOV.W @aa:24,Rd` `6B 2 rd 00 abs24` (R208). -/
  | movWLoadAbs24 (aa : BitVec 24) (rd : R16)
  /-- `MOV.L @ERs,ERd` `0100 69 0ers 0erd` (R209). -/
  | movLLoadInd (ers : ER) (erd : ER)
  /-- `MOV.L @(d:16,ERs),ERd` `0100 6F 0ers 0erd d16` (R209). -/
  | movLLoadDisp16 (d : BitVec 16) (ers : ER) (erd : ER)
  /-- `MOV.L @(d:24,ERs),ERd` `0100 78 0ers 0 6B 2 0erd 00 d24` (R209). -/
  | movLLoadDisp24 (d : BitVec 24) (ers : ER) (erd : ER)
  /-- `MOV.L @ERs+,ERd` `0100 6D 0ers 0erd` (R209). -/
  | movLLoadInc (ers : ER) (erd : ER)
  /-- `MOV.L @aa:16,ERd` `0100 6B 0 0erd abs16` (R209). -/
  | movLLoadAbs16 (aa : BitVec 16) (erd : ER)
  /-- `MOV.L @aa:24,ERd` `0100 6B 2 0erd 00 abs24` (R209). -/
  | movLLoadAbs24 (aa : BitVec 24) (erd : ER)
  /-- `MOV.B Rs,@ERd` `68 1erd rs` (R211). -/
  | movBStoreInd (rs : R8) (erd : ER)
  /-- `MOV.B Rs,@(d:16,ERd)` `6E 1erd rs d16` (R211). -/
  | movBStoreDisp16 (rs : R8) (d : BitVec 16) (erd : ER)
  /-- `MOV.B Rs,@(d:24,ERd)` `78 0erd 0 6A A rs 00 d24` (R211). -/
  | movBStoreDisp24 (rs : R8) (d : BitVec 24) (erd : ER)
  /-- `MOV.B Rs,@-ERd` `6C 1erd rs` (R211). -/
  | movBStoreDec (rs : R8) (erd : ER)
  /-- `MOV.B Rs,@aa:8` `3 rs abs8` (R211). -/
  | movBStoreAbs8 (rs : R8) (aa : BitVec 8)
  /-- `MOV.B Rs,@aa:16` `6A 8 rs abs16` (R211). -/
  | movBStoreAbs16 (rs : R8) (aa : BitVec 16)
  /-- `MOV.B Rs,@aa:24` `6A A rs 00 abs24` (R211). -/
  | movBStoreAbs24 (rs : R8) (aa : BitVec 24)
  /-- `MOV.W Rs,@ERd` `69 1erd rs` (R216). -/
  | movWStoreInd (rs : R16) (erd : ER)
  /-- `MOV.W Rs,@(d:16,ERd)` `6F 1erd rs d16` (R216). -/
  | movWStoreDisp16 (rs : R16) (d : BitVec 16) (erd : ER)
  /-- `MOV.W Rs,@(d:24,ERd)` `78 0erd 0 6B A rs 00 d24` (R216). -/
  | movWStoreDisp24 (rs : R16) (d : BitVec 24) (erd : ER)
  /-- `MOV.W Rs,@-ERd` `6D 1erd rs` (R216). -/
  | movWStoreDec (rs : R16) (erd : ER)
  /-- `MOV.W Rs,@aa:16` `6B 8 rs abs16` (R216). -/
  | movWStoreAbs16 (rs : R16) (aa : BitVec 16)
  /-- `MOV.W Rs,@aa:24` `6B A rs 00 abs24` (R216). -/
  | movWStoreAbs24 (rs : R16) (aa : BitVec 24)
  /-- `MOV.L ERs,@ERd` `0100 69 1erd 0ers` (R221). -/
  | movLStoreInd (ers : ER) (erd : ER)
  /-- `MOV.L ERs,@(d:16,ERd)` `0100 6F 1erd 0ers d16` (R221). -/
  | movLStoreDisp16 (ers : ER) (d : BitVec 16) (erd : ER)
  /-- `MOV.L ERs,@(d:24,ERd)` `0100 78 0erd 0 6B A 0ers 00 d24` (R221). -/
  | movLStoreDisp24 (ers : ER) (d : BitVec 24) (erd : ER)
  /-- `MOV.L ERs,@-ERd` `0100 6D 1erd 0ers` (R221). -/
  | movLStoreDec (ers : ER) (erd : ER)
  /-- `MOV.L ERs,@aa:16` `0100 6B 8 0ers abs16` (R221). -/
  | movLStoreAbs16 (ers : ER) (aa : BitVec 16)
  /-- `MOV.L ERs,@aa:24` `0100 6B A 0ers 00 abs24` (R221). -/
  | movLStoreAbs24 (ers : ER) (aa : BitVec 24)
  /-- `POP.W Rn` `6D 7 rn` (R225). -/
  | popW (rn : R16)
  /-- `POP.L ERn` `0100 6D 7 0ern` (R226). -/
  | popL (ern : ER)
  /-- `PUSH.W Rn` `6D F rn` (R227). -/
  | pushW (rn : R16)
  /-- `PUSH.L ERn` `0100 6D F 0ern` (R228). -/
  | pushL (ern : ER)
  /-- `MOVFPE @aa:16,Rd` `6A 4 rd abs16` (R230). -/
  | movfpe (aa : BitVec 16) (rd : R8)
  /-- `MOVTPE Rs,@aa:16` `6A C rs abs16` (R231). -/
  | movtpe (rs : R8) (aa : BitVec 16)
  -- Addition and subtraction (41_arithmetic_addsub.md)
  /-- `ADD.B #xx:8,Rd` `8 rd imm8` (R261). -/
  | addBImm (imm : BitVec 8) (rd : R8)
  /-- `ADD.B Rs,Rd` `08 rs rd` (R261). -/
  | addBReg (rs : R8) (rd : R8)
  /-- `ADD.W #xx:16,Rd` `79 1 rd imm16` (R262). -/
  | addWImm (imm : BitVec 16) (rd : R16)
  /-- `ADD.W Rs,Rd` `09 rs rd` (R262). -/
  | addWReg (rs : R16) (rd : R16)
  /-- `ADD.L #xx:32,ERd` `7A 1 0erd imm32` (R263). -/
  | addLImm (imm : BitVec 32) (erd : ER)
  /-- `ADD.L ERs,ERd` `0A 1ers 0erd` (R263). -/
  | addLReg (ers : ER) (erd : ER)
  /-- `ADDS #1,ERd` `0B 0 0erd` (R265). -/
  | adds1 (erd : ER)
  /-- `ADDS #2,ERd` `0B 8 0erd` (R265). -/
  | adds2 (erd : ER)
  /-- `ADDS #4,ERd` `0B 9 0erd` (R265). -/
  | adds4 (erd : ER)
  /-- `ADDX #xx:8,Rd` `9 rd imm8` (R266). -/
  | addxImm (imm : BitVec 8) (rd : R8)
  /-- `ADDX Rs,Rd` `0E rs rd` (R266). -/
  | addxReg (rs : R8) (rd : R8)
  /-- `SUB.B Rs,Rd` `18 rs rd` (R270). -/
  | subBReg (rs : R8) (rd : R8)
  /-- `SUB.W #xx:16,Rd` `79 3 rd imm16` (R271). -/
  | subWImm (imm : BitVec 16) (rd : R16)
  /-- `SUB.W Rs,Rd` `19 rs rd` (R271). -/
  | subWReg (rs : R16) (rd : R16)
  /-- `SUB.L #xx:32,ERd` `7A 3 0erd imm32` (R272). -/
  | subLImm (imm : BitVec 32) (erd : ER)
  /-- `SUB.L ERs,ERd` `1A 1ers 0erd` (R272). -/
  | subLReg (ers : ER) (erd : ER)
  /-- `SUBS #1,ERd` `1B 0 0erd` (R275). -/
  | subs1 (erd : ER)
  /-- `SUBS #2,ERd` `1B 8 0erd` (R275). -/
  | subs2 (erd : ER)
  /-- `SUBS #4,ERd` `1B 9 0erd` (R275). -/
  | subs4 (erd : ER)
  /-- `SUBX #xx:8,Rd` `B rd imm8` (R276). -/
  | subxImm (imm : BitVec 8) (rd : R8)
  /-- `SUBX Rs,Rd` `1E rs rd` (R276). -/
  | subxReg (rs : R8) (rd : R8)
  /-- `INC.B Rd` `0A 0 rd` (R280). -/
  | incB (rd : R8)
  /-- `INC.W #1,Rd` `0B 5 rd` (R281). -/
  | incW1 (rd : R16)
  /-- `INC.W #2,Rd` `0B D rd` (R281). -/
  | incW2 (rd : R16)
  /-- `INC.L #1,ERd` `0B 7 0erd` (R282). -/
  | incL1 (erd : ER)
  /-- `INC.L #2,ERd` `0B F 0erd` (R282). -/
  | incL2 (erd : ER)
  /-- `DEC.B Rd` `1A 0 rd` (R285). -/
  | decB (rd : R8)
  /-- `DEC.W #1,Rd` `1B 5 rd` (R286). -/
  | decW1 (rd : R16)
  /-- `DEC.W #2,Rd` `1B D rd` (R286). -/
  | decW2 (rd : R16)
  /-- `DEC.L #1,ERd` `1B 7 0erd` (R287). -/
  | decL1 (erd : ER)
  /-- `DEC.L #2,ERd` `1B F 0erd` (R287). -/
  | decL2 (erd : ER)
  /-- `DAA Rd` `0F 0 rd` (R290). -/
  | daa (rd : R8)
  /-- `DAS Rd` `1F 0 rd` (R295). -/
  | das (rd : R8)
  -- Multiplication, division, comparison, extension (42_arithmetic_muldiv.md)
  /-- `MULXU.B Rs,Rd` `50 rs rd` (R320). -/
  | mulxuB (rs : R8) (rd : R16)
  /-- `MULXU.W Rs,ERd` `52 rs 0erd` (R321). -/
  | mulxuW (rs : R16) (erd : ER)
  /-- `MULXS.B Rs,Rd` `01C0 50 rs rd` (R322). -/
  | mulxsB (rs : R8) (rd : R16)
  /-- `MULXS.W Rs,ERd` `01C0 52 rs 0erd` (R323). -/
  | mulxsW (rs : R16) (erd : ER)
  /-- `DIVXU.B Rs,Rd` `51 rs rd` (R325). -/
  | divxuB (rs : R8) (rd : R16)
  /-- `DIVXU.W Rs,ERd` `53 rs 0erd` (R326). -/
  | divxuW (rs : R16) (erd : ER)
  /-- `DIVXS.B Rs,Rd` `01D0 51 rs rd` (R328). -/
  | divxsB (rs : R8) (rd : R16)
  /-- `DIVXS.W Rs,ERd` `01D0 53 rs 0erd` (R329). -/
  | divxsW (rs : R16) (erd : ER)
  /-- `CMP.B #xx:8,Rd` `A rd imm8` (R335). -/
  | cmpBImm (imm : BitVec 8) (rd : R8)
  /-- `CMP.B Rs,Rd` `1C rs rd` (R335). -/
  | cmpBReg (rs : R8) (rd : R8)
  /-- `CMP.W #xx:16,Rd` `79 2 rd imm16` (R336). -/
  | cmpWImm (imm : BitVec 16) (rd : R16)
  /-- `CMP.W Rs,Rd` `1D rs rd` (R336). -/
  | cmpWReg (rs : R16) (rd : R16)
  /-- `CMP.L #xx:32,ERd` `7A 2 0erd imm32` (R337). -/
  | cmpLImm (imm : BitVec 32) (erd : ER)
  /-- `CMP.L ERs,ERd` `1F 1ers 0erd` (R337). -/
  | cmpLReg (ers : ER) (erd : ER)
  /-- `NEG.B Rd` `17 8 rd` (R340). -/
  | negB (rd : R8)
  /-- `NEG.W Rd` `17 9 rd` (R341). -/
  | negW (rd : R16)
  /-- `NEG.L ERd` `17 B 0erd` (R342). -/
  | negL (erd : ER)
  /-- `EXTS.W Rd` `17 D rd` (R345). -/
  | extsW (rd : R16)
  /-- `EXTS.L ERd` `17 F 0erd` (R346). -/
  | extsL (erd : ER)
  /-- `EXTU.W Rd` `17 5 rd` (R347). -/
  | extuW (rd : R16)
  /-- `EXTU.L ERd` `17 7 0erd` (R348). -/
  | extuL (erd : ER)
  -- Logic (43_logic.md)
  /-- `AND.B #xx:8,Rd` `E rd imm8` (R361). -/
  | andBImm (imm : BitVec 8) (rd : R8)
  /-- `AND.B Rs,Rd` `16 rs rd` (R361). -/
  | andBReg (rs : R8) (rd : R8)
  /-- `AND.W #xx:16,Rd` `79 6 rd imm16` (R362). -/
  | andWImm (imm : BitVec 16) (rd : R16)
  /-- `AND.W Rs,Rd` `66 rs rd` (R362). -/
  | andWReg (rs : R16) (rd : R16)
  /-- `AND.L #xx:32,ERd` `7A 6 0erd imm32` (R363). -/
  | andLImm (imm : BitVec 32) (erd : ER)
  /-- `AND.L ERs,ERd` `01F0 66 0ers 0erd` (R363). -/
  | andLReg (ers : ER) (erd : ER)
  /-- `OR.B #xx:8,Rd` `C rd imm8` (R365). -/
  | orBImm (imm : BitVec 8) (rd : R8)
  /-- `OR.B Rs,Rd` `14 rs rd` (R365). -/
  | orBReg (rs : R8) (rd : R8)
  /-- `OR.W #xx:16,Rd` `79 4 rd imm16` (R366). -/
  | orWImm (imm : BitVec 16) (rd : R16)
  /-- `OR.W Rs,Rd` `64 rs rd` (R366). -/
  | orWReg (rs : R16) (rd : R16)
  /-- `OR.L #xx:32,ERd` `7A 4 0erd imm32` (R367). -/
  | orLImm (imm : BitVec 32) (erd : ER)
  /-- `OR.L ERs,ERd` `01F0 64 0ers 0erd` (R367). -/
  | orLReg (ers : ER) (erd : ER)
  /-- `XOR.B #xx:8,Rd` `D rd imm8` (R370). -/
  | xorBImm (imm : BitVec 8) (rd : R8)
  /-- `XOR.B Rs,Rd` `15 rs rd` (R370). -/
  | xorBReg (rs : R8) (rd : R8)
  /-- `XOR.W #xx:16,Rd` `79 5 rd imm16` (R371). -/
  | xorWImm (imm : BitVec 16) (rd : R16)
  /-- `XOR.W Rs,Rd` `65 rs rd` (R371). -/
  | xorWReg (rs : R16) (rd : R16)
  /-- `XOR.L #xx:32,ERd` `7A 5 0erd imm32` (R372). -/
  | xorLImm (imm : BitVec 32) (erd : ER)
  /-- `XOR.L ERs,ERd` `01F0 65 0ers 0erd` (R372). -/
  | xorLReg (ers : ER) (erd : ER)
  /-- `NOT.B Rd` `17 0 rd` (R375). -/
  | notB (rd : R8)
  /-- `NOT.W Rd` `17 1 rd` (R376). -/
  | notW (rd : R16)
  /-- `NOT.L ERd` `17 3 0erd` (R377). -/
  | notL (erd : ER)
  -- Shift and rotate (44_shift.md)
  /-- `SHAL.B Rd` `10 8 rd` (R392). -/
  | shalB (rd : R8)
  /-- `SHAL.W Rd` `10 9 rd` (R392). -/
  | shalW (rd : R16)
  /-- `SHAL.L ERd` `10 B 0erd` (R392). -/
  | shalL (erd : ER)
  /-- `SHAR.B Rd` `11 8 rd` (R393). -/
  | sharB (rd : R8)
  /-- `SHAR.W Rd` `11 9 rd` (R393). -/
  | sharW (rd : R16)
  /-- `SHAR.L ERd` `11 B 0erd` (R393). -/
  | sharL (erd : ER)
  /-- `SHLL.B Rd` `10 0 rd` (R395). -/
  | shllB (rd : R8)
  /-- `SHLL.W Rd` `10 1 rd` (R395). -/
  | shllW (rd : R16)
  /-- `SHLL.L ERd` `10 3 0erd` (R395). -/
  | shllL (erd : ER)
  /-- `SHLR.B Rd` `11 0 rd` (R396). -/
  | shlrB (rd : R8)
  /-- `SHLR.W Rd` `11 1 rd` (R396). -/
  | shlrW (rd : R16)
  /-- `SHLR.L ERd` `11 3 0erd` (R396). -/
  | shlrL (erd : ER)
  /-- `ROTL.B Rd` `12 8 rd` (R400). -/
  | rotlB (rd : R8)
  /-- `ROTL.W Rd` `12 9 rd` (R400). -/
  | rotlW (rd : R16)
  /-- `ROTL.L ERd` `12 B 0erd` (R400). -/
  | rotlL (erd : ER)
  /-- `ROTR.B Rd` `13 8 rd` (R401). -/
  | rotrB (rd : R8)
  /-- `ROTR.W Rd` `13 9 rd` (R401). -/
  | rotrW (rd : R16)
  /-- `ROTR.L ERd` `13 B 0erd` (R401). -/
  | rotrL (erd : ER)
  /-- `ROTXL.B Rd` `12 0 rd` (R402). -/
  | rotxlB (rd : R8)
  /-- `ROTXL.W Rd` `12 1 rd` (R402). -/
  | rotxlW (rd : R16)
  /-- `ROTXL.L ERd` `12 3 0erd` (R402). -/
  | rotxlL (erd : ER)
  /-- `ROTXR.B Rd` `13 0 rd` (R403). -/
  | rotxrB (rd : R8)
  /-- `ROTXR.W Rd` `13 1 rd` (R403). -/
  | rotxrW (rd : R16)
  /-- `ROTXR.L ERd` `13 3 0erd` (R403). -/
  | rotxrL (erd : ER)
  -- Bit manipulation (45_bit_manipulation.md)
  /-- `BSET #xx:3,Rd` `70 0imm3 rd` (R430). -/
  | bsetImmReg (n : BitVec 3) (rd : R8)
  /-- `BSET #xx:3,@ERd` `7D 0erd 0 70 0imm3 0` (R430). -/
  | bsetImmInd (n : BitVec 3) (erd : ER)
  /-- `BSET #xx:3,@aa:8` `7F abs8 70 0imm3 0` (R430). -/
  | bsetImmAbs (n : BitVec 3) (aa : BitVec 8)
  /-- `BSET Rn,Rd` `60 rn rd` (R430). -/
  | bsetRnReg (rn : R8) (rd : R8)
  /-- `BSET Rn,@ERd` `7D 0erd 0 60 rn 0` (R430). -/
  | bsetRnInd (rn : R8) (erd : ER)
  /-- `BSET Rn,@aa:8` `7F abs8 60 rn 0` (R430). -/
  | bsetRnAbs (rn : R8) (aa : BitVec 8)
  /-- `BCLR #xx:3,Rd` `72 0imm3 rd` (R431). -/
  | bclrImmReg (n : BitVec 3) (rd : R8)
  /-- `BCLR #xx:3,@ERd` `7D 0erd 0 72 0imm3 0` (R431). -/
  | bclrImmInd (n : BitVec 3) (erd : ER)
  /-- `BCLR #xx:3,@aa:8` `7F abs8 72 0imm3 0` (R431). -/
  | bclrImmAbs (n : BitVec 3) (aa : BitVec 8)
  /-- `BCLR Rn,Rd` `62 rn rd` (R431). -/
  | bclrRnReg (rn : R8) (rd : R8)
  /-- `BCLR Rn,@ERd` `7D 0erd 0 62 rn 0` (R431). -/
  | bclrRnInd (rn : R8) (erd : ER)
  /-- `BCLR Rn,@aa:8` `7F abs8 62 rn 0` (R431). -/
  | bclrRnAbs (rn : R8) (aa : BitVec 8)
  /-- `BNOT #xx:3,Rd` `71 0imm3 rd` (R432). -/
  | bnotImmReg (n : BitVec 3) (rd : R8)
  /-- `BNOT #xx:3,@ERd` `7D 0erd 0 71 0imm3 0` (R432). -/
  | bnotImmInd (n : BitVec 3) (erd : ER)
  /-- `BNOT #xx:3,@aa:8` `7F abs8 71 0imm3 0` (R432). -/
  | bnotImmAbs (n : BitVec 3) (aa : BitVec 8)
  /-- `BNOT Rn,Rd` `61 rn rd` (R432). -/
  | bnotRnReg (rn : R8) (rd : R8)
  /-- `BNOT Rn,@ERd` `7D 0erd 0 61 rn 0` (R432). -/
  | bnotRnInd (rn : R8) (erd : ER)
  /-- `BNOT Rn,@aa:8` `7F abs8 61 rn 0` (R432). -/
  | bnotRnAbs (rn : R8) (aa : BitVec 8)
  /-- `BTST #xx:3,Rd` `73 0imm3 rd` (R433). -/
  | btstImmReg (n : BitVec 3) (rd : R8)
  /-- `BTST #xx:3,@ERd` `7C 0erd 0 73 0imm3 0` (R433). -/
  | btstImmInd (n : BitVec 3) (erd : ER)
  /-- `BTST #xx:3,@aa:8` `7E abs8 73 0imm3 0` (R433). -/
  | btstImmAbs (n : BitVec 3) (aa : BitVec 8)
  /-- `BTST Rn,Rd` `63 rn rd` (R433). -/
  | btstRnReg (rn : R8) (rd : R8)
  /-- `BTST Rn,@ERd` `7C 0erd 0 63 rn 0` (R433). -/
  | btstRnInd (rn : R8) (erd : ER)
  /-- `BTST Rn,@aa:8` `7E abs8 63 rn 0` (R433). -/
  | btstRnAbs (rn : R8) (aa : BitVec 8)
  /-- `BAND #xx:3,Rd` `76 0imm3 rd` (R440). -/
  | bandReg (n : BitVec 3) (rd : R8)
  /-- `BAND #xx:3,@ERd` `7C 0erd 0 76 0imm3 0` (R440). -/
  | bandInd (n : BitVec 3) (erd : ER)
  /-- `BAND #xx:3,@aa:8` `7E abs8 76 0imm3 0` (R440). -/
  | bandAbs (n : BitVec 3) (aa : BitVec 8)
  /-- `BIAND #xx:3,Rd` `76 1imm3 rd` (R441). -/
  | biandReg (n : BitVec 3) (rd : R8)
  /-- `BIAND #xx:3,@ERd` `7C 0erd 0 76 1imm3 0` (R441). -/
  | biandInd (n : BitVec 3) (erd : ER)
  /-- `BIAND #xx:3,@aa:8` `7E abs8 76 1imm3 0` (R441). -/
  | biandAbs (n : BitVec 3) (aa : BitVec 8)
  /-- `BOR #xx:3,Rd` `74 0imm3 rd` (R442). -/
  | borReg (n : BitVec 3) (rd : R8)
  /-- `BOR #xx:3,@ERd` `7C 0erd 0 74 0imm3 0` (R442). -/
  | borInd (n : BitVec 3) (erd : ER)
  /-- `BOR #xx:3,@aa:8` `7E abs8 74 0imm3 0` (R442). -/
  | borAbs (n : BitVec 3) (aa : BitVec 8)
  /-- `BIOR #xx:3,Rd` `74 1imm3 rd` (R443). -/
  | biorReg (n : BitVec 3) (rd : R8)
  /-- `BIOR #xx:3,@ERd` `7C 0erd 0 74 1imm3 0` (R443). -/
  | biorInd (n : BitVec 3) (erd : ER)
  /-- `BIOR #xx:3,@aa:8` `7E abs8 74 1imm3 0` (R443). -/
  | biorAbs (n : BitVec 3) (aa : BitVec 8)
  /-- `BXOR #xx:3,Rd` `75 0imm3 rd` (R444). -/
  | bxorReg (n : BitVec 3) (rd : R8)
  /-- `BXOR #xx:3,@ERd` `7C 0erd 0 75 0imm3 0` (R444). -/
  | bxorInd (n : BitVec 3) (erd : ER)
  /-- `BXOR #xx:3,@aa:8` `7E abs8 75 0imm3 0` (R444). -/
  | bxorAbs (n : BitVec 3) (aa : BitVec 8)
  /-- `BIXOR #xx:3,Rd` `75 1imm3 rd` (R445). -/
  | bixorReg (n : BitVec 3) (rd : R8)
  /-- `BIXOR #xx:3,@ERd` `7C 0erd 0 75 1imm3 0` (R445). -/
  | bixorInd (n : BitVec 3) (erd : ER)
  /-- `BIXOR #xx:3,@aa:8` `7E abs8 75 1imm3 0` (R445). -/
  | bixorAbs (n : BitVec 3) (aa : BitVec 8)
  /-- `BLD #xx:3,Rd` `77 0imm3 rd` (R446). -/
  | bldReg (n : BitVec 3) (rd : R8)
  /-- `BLD #xx:3,@ERd` `7C 0erd 0 77 0imm3 0` (R446). -/
  | bldInd (n : BitVec 3) (erd : ER)
  /-- `BLD #xx:3,@aa:8` `7E abs8 77 0imm3 0` (R446). -/
  | bldAbs (n : BitVec 3) (aa : BitVec 8)
  /-- `BILD #xx:3,Rd` `77 1imm3 rd` (R447). -/
  | bildReg (n : BitVec 3) (rd : R8)
  /-- `BILD #xx:3,@ERd` `7C 0erd 0 77 1imm3 0` (R447). -/
  | bildInd (n : BitVec 3) (erd : ER)
  /-- `BILD #xx:3,@aa:8` `7E abs8 77 1imm3 0` (R447). -/
  | bildAbs (n : BitVec 3) (aa : BitVec 8)
  /-- `BST #xx:3,Rd` `67 0imm3 rd` (R448). -/
  | bstReg (n : BitVec 3) (rd : R8)
  /-- `BST #xx:3,@ERd` `7D 0erd 0 67 0imm3 0` (R448). -/
  | bstInd (n : BitVec 3) (erd : ER)
  /-- `BST #xx:3,@aa:8` `7F abs8 67 0imm3 0` (R448). -/
  | bstAbs (n : BitVec 3) (aa : BitVec 8)
  /-- `BIST #xx:3,Rd` `67 1imm3 rd` (R449). -/
  | bistReg (n : BitVec 3) (rd : R8)
  /-- `BIST #xx:3,@ERd` `7D 0erd 0 67 1imm3 0` (R449). -/
  | bistInd (n : BitVec 3) (erd : ER)
  /-- `BIST #xx:3,@aa:8` `7F abs8 67 1imm3 0` (R449). -/
  | bistAbs (n : BitVec 3) (aa : BitVec 8)
  -- Branch (46_branch.md)
  /-- `BRA d:8` `4 0 d8` (R472). -/
  | braD8 (d : BitVec 8)
  /-- `BRA d:16` `58 0 0 d16` (R473). -/
  | braD16 (d : BitVec 16)
  /-- `BRN d:8` `4 1 d8` (R472). -/
  | brnD8 (d : BitVec 8)
  /-- `BRN d:16` `58 1 0 d16` (R473). -/
  | brnD16 (d : BitVec 16)
  /-- `BHI d:8` `4 2 d8` (R472). -/
  | bhiD8 (d : BitVec 8)
  /-- `BHI d:16` `58 2 0 d16` (R473). -/
  | bhiD16 (d : BitVec 16)
  /-- `BLS d:8` `4 3 d8` (R472). -/
  | blsD8 (d : BitVec 8)
  /-- `BLS d:16` `58 3 0 d16` (R473). -/
  | blsD16 (d : BitVec 16)
  /-- `BCC d:8` `4 4 d8` (R472). -/
  | bccD8 (d : BitVec 8)
  /-- `BCC d:16` `58 4 0 d16` (R473). -/
  | bccD16 (d : BitVec 16)
  /-- `BCS d:8` `4 5 d8` (R472). -/
  | bcsD8 (d : BitVec 8)
  /-- `BCS d:16` `58 5 0 d16` (R473). -/
  | bcsD16 (d : BitVec 16)
  /-- `BNE d:8` `4 6 d8` (R472). -/
  | bneD8 (d : BitVec 8)
  /-- `BNE d:16` `58 6 0 d16` (R473). -/
  | bneD16 (d : BitVec 16)
  /-- `BEQ d:8` `4 7 d8` (R472). -/
  | beqD8 (d : BitVec 8)
  /-- `BEQ d:16` `58 7 0 d16` (R473). -/
  | beqD16 (d : BitVec 16)
  /-- `BVC d:8` `4 8 d8` (R472). -/
  | bvcD8 (d : BitVec 8)
  /-- `BVC d:16` `58 8 0 d16` (R473). -/
  | bvcD16 (d : BitVec 16)
  /-- `BVS d:8` `4 9 d8` (R472). -/
  | bvsD8 (d : BitVec 8)
  /-- `BVS d:16` `58 9 0 d16` (R473). -/
  | bvsD16 (d : BitVec 16)
  /-- `BPL d:8` `4 A d8` (R472). -/
  | bplD8 (d : BitVec 8)
  /-- `BPL d:16` `58 A 0 d16` (R473). -/
  | bplD16 (d : BitVec 16)
  /-- `BMI d:8` `4 B d8` (R472). -/
  | bmiD8 (d : BitVec 8)
  /-- `BMI d:16` `58 B 0 d16` (R473). -/
  | bmiD16 (d : BitVec 16)
  /-- `BGE d:8` `4 C d8` (R472). -/
  | bgeD8 (d : BitVec 8)
  /-- `BGE d:16` `58 C 0 d16` (R473). -/
  | bgeD16 (d : BitVec 16)
  /-- `BLT d:8` `4 D d8` (R472). -/
  | bltD8 (d : BitVec 8)
  /-- `BLT d:16` `58 D 0 d16` (R473). -/
  | bltD16 (d : BitVec 16)
  /-- `BGT d:8` `4 E d8` (R472). -/
  | bgtD8 (d : BitVec 8)
  /-- `BGT d:16` `58 E 0 d16` (R473). -/
  | bgtD16 (d : BitVec 16)
  /-- `BLE d:8` `4 F d8` (R472). -/
  | bleD8 (d : BitVec 8)
  /-- `BLE d:16` `58 F 0 d16` (R473). -/
  | bleD16 (d : BitVec 16)
  /-- `BSR d:8` `55 d8` (R474). -/
  | bsrD8 (d : BitVec 8)
  /-- `BSR d:16` `5C 00 d16` (R474). -/
  | bsrD16 (d : BitVec 16)
  /-- `JMP @ERn` `59 0ern 0` (R476). -/
  | jmpInd (ern : ER)
  /-- `JMP @aa:24` `5A abs24` (R476). -/
  | jmpAbs (aa : BitVec 24)
  /-- `JMP @@aa:8` `5B abs8` (R476). -/
  | jmpMem (aa : BitVec 8)
  /-- `JSR @ERn` `5D 0ern 0` (R478). -/
  | jsrInd (ern : ER)
  /-- `JSR @aa:24` `5E abs24` (R478). -/
  | jsrAbs (aa : BitVec 24)
  /-- `JSR @@aa:8` `5F abs8` (R478). -/
  | jsrMem (aa : BitVec 8)
  /-- `RTS` `54 70` (R480). -/
  | rts
  -- System control (47_system_control.md)
  /-- `TRAPA #x:2` `57 trap 0` (R501). -/
  | trapa (x : BitVec 2)
  /-- `RTE` `56 70` (R503). -/
  | rte
  /-- `SLEEP` `01 80` (R504). -/
  | sleep
  /-- `NOP` `00 00` (R505). -/
  | nop
  /-- `LDC #xx:8,CCR` `07 imm8` (R506). -/
  | ldcImm (imm : BitVec 8)
  /-- `LDC Rs,CCR` `03 0 rs` (R507). -/
  | ldcReg (rs : R8)
  /-- `STC CCR,Rd` `02 0 rd` (R508). -/
  | stcReg (rd : R8)
  /-- `ANDC #xx:8,CCR` `06 imm8` (R510). -/
  | andc (imm : BitVec 8)
  /-- `ORC #xx:8,CCR` `04 imm8` (R511). -/
  | orc (imm : BitVec 8)
  /-- `XORC #xx:8,CCR` `05 imm8` (R512). -/
  | xorc (imm : BitVec 8)
  /-- `LDC.W @ERs,CCR` `0140 69 0ers 0` (R516). -/
  | ldcLoadInd (ers : ER)
  /-- `LDC.W @(d:16,ERs),CCR` `0140 6F 0ers 0 d16` (R517). -/
  | ldcLoadDisp16 (d : BitVec 16) (ers : ER)
  /-- `LDC.W @(d:24,ERs),CCR` `0140 78 0ers 0 6B 20 00 d24` (R518). -/
  | ldcLoadDisp24 (d : BitVec 24) (ers : ER)
  /-- `LDC.W @ERs+,CCR` `0140 6D 0ers 0` (R519). -/
  | ldcLoadInc (ers : ER)
  /-- `LDC.W @aa:16,CCR` `0140 6B 00 abs16` (R520). -/
  | ldcLoadAbs16 (aa : BitVec 16)
  /-- `LDC.W @aa:24,CCR` `0140 6B 20 00 abs24` (R521). -/
  | ldcLoadAbs24 (aa : BitVec 24)
  /-- `STC.W CCR,@ERd` `0140 69 1erd 0` (R526). -/
  | stcStoreInd (erd : ER)
  /-- `STC.W CCR,@(d:16,ERd)` `0140 6F 1erd 0 d16` (R527). -/
  | stcStoreDisp16 (d : BitVec 16) (erd : ER)
  /-- `STC.W CCR,@(d:24,ERd)` `0140 78 0erd 0 6B A0 00 d24` (R528). -/
  | stcStoreDisp24 (d : BitVec 24) (erd : ER)
  /-- `STC.W CCR,@-ERd` `0140 6D 1erd 0` (R529). -/
  | stcStoreDec (erd : ER)
  /-- `STC.W CCR,@aa:16` `0140 6B 80 abs16` (R530). -/
  | stcStoreAbs16 (aa : BitVec 16)
  /-- `STC.W CCR,@aa:24` `0140 6B A0 00 abs24` (R531). -/
  | stcStoreAbs24 (aa : BitVec 24)
  -- Block transfer (48_block_transfer.md)
  /-- `EEPMOV.B` `7B 5C 59 8F` (R550). -/
  | eepmovB
  /-- `EEPMOV.W` `7B D4 59 8F` (R551). -/
  | eepmovW
  deriving DecidableEq, Repr

end Sys2Proof
end

