-- ==== Sys2Proof/WellFormed.lean ====
section
/-! DEFINITION. Which terms of `Instr` are the canonical reading of their machine code.
Every operand has exactly the width its field has (R124 to R129), so an operand cannot be out of range.
What is left to check: the machine code of `MOV @ER7+` and `MOV @-ER7` in word and longword size is
POP and PUSH (R161), and those words are written with the constructors of POP and PUSH (log 30). -/

namespace Sys2Proof

/-- The instruction is the one the decoder gives for its own machine code. -/
def Instr.wf : Instr → Bool
  | .movWLoadInc ers _ => decide (ers ≠ .er7)
  | .movLLoadInc ers _ => decide (ers ≠ .er7)
  | .movWStoreDec _ erd => decide (erd ≠ .er7)
  | .movLStoreDec _ erd => decide (erd ≠ .er7)
  | _ => true

end Sys2Proof
end

