-- ==== Sys2Proof/Decode.lean ====
section
/-! DEFINITION. The decoder, from the opcode maps (30_encoding.md R130 to R150), total on any bytes,
and after it the encoder, from the operand-format tables. -/

namespace Sys2Proof

/- Lean's compiled code allows an inductive at most 245 constructors with fields, and `Instr` has 262.
So what builds an `Instr` is not compiled; the kernel evaluates it like any other definition (log 38). -/
noncomputable section

/-! ### Fields -/

/-- The upper nibble of a byte (R122). -/
def hi (b : Byte) : Nibble := b.extractLsb' 4 4

/-- The lower nibble of a byte (R122). -/
def lo (b : Byte) : Nibble := b.extractLsb' 0 4

/-- The byte with the given upper and lower nibbles. -/
def pack (h l : Nibble) : Byte := h ++ l

/-- Byte `i` of a value, byte 0 the least significant. -/
def byteOf {w : Nat} (v : BitVec w) (i : Nat) : Byte := v.extractLsb' (8 * i) 8

/-- A 3-bit register field in a nibble whose bit 3 is 0 (R124, R125). -/
def ER.code : ER → Nibble
  | .er0 => 0 | .er1 => 1 | .er2 => 2 | .er3 => 3 | .er4 => 4 | .er5 => 5 | .er6 => 6 | .er7 => 7

/-- A 3-bit register field in a nibble whose bit 3 is 1 (R124, R125). -/
def ER.code1 : ER → Nibble
  | .er0 => 8 | .er1 => 9 | .er2 => 10 | .er3 => 11 | .er4 => 12 | .er5 => 13 | .er6 => 14 | .er7 => 15

/-- The 4-bit field of an 8-bit register: RnH 0 to 7, RnL 8 to F (R124). -/
def R8.code : R8 → Nibble
  | .h n => n.code
  | .l n => n.code1

/-- The 4-bit field of a 16-bit register: Rn 0 to 7, En 8 to F (R124). -/
def R16.code : R16 → Nibble
  | .r n => n.code
  | .e n => n.code1

/-- The register a nibble's low three bits name (R124). -/
def erLow (n : Nibble) : ER :=
  match n with
  | 0#4 => .er0 | 1#4 => .er1 | 2#4 => .er2 | 3#4 => .er3
  | 4#4 => .er4 | 5#4 => .er5 | 6#4 => .er6 | 7#4 => .er7
  | 8#4 => .er0 | 9#4 => .er1 | 10#4 => .er2 | 11#4 => .er3
  | 12#4 => .er4 | 13#4 => .er5 | 14#4 => .er6 | _ => .er7

/-- Bit 3 of a nibble. -/
def top (n : Nibble) : Bool := n.getLsbD 3

/-- `Reg8(f)` of R124. -/
def r8 (f : Nibble) : R8 := if top f then .l (erLow f) else .h (erLow f)

/-- `Reg16(f)` of R124. -/
def r16 (f : Nibble) : R16 := if top f then .e (erLow f) else .r (erLow f)

/-- A nibble `0ern`: an instruction if bit 3 is 0, unassigned otherwise (R125, R150). -/
def er0? (f : Nibble) (k : ER → Instr) : Option Instr := if top f then none else some (k (erLow f))

/-- A nibble `1ern`: an instruction if bit 3 is 1, unassigned otherwise (R125, R150). -/
def er1? (f : Nibble) (k : ER → Instr) : Option Instr := if top f then some (k (erLow f)) else none

/-- A nibble whose bit 3 selects between a load `0ers` and a store `1erd` (R125, R134). -/
def loadOrStore (f : Nibble) (load store : ER → Instr) : Option Instr :=
  some (if top f then store (erLow f) else load (erLow f))

/-- The 3-bit immediate in a nibble (R126, R421). -/
def imm3 (f : Nibble) : BitVec 3 := f.extractLsb' 0 3

/-- A nibble `0IMM` or `1IMM`: bit 3 selects between an instruction and its inverting partner (R126). -/
def imm3Either (f : Nibble) (plain inverting : BitVec 3 → Instr) : Option Instr :=
  some (if top f then inverting (imm3 f) else plain (imm3 f))

/-- A nibble `0IMM`; with bit 3 set it is unassigned (R126, R150). -/
def imm3? (f : Nibble) (k : BitVec 3 → Instr) : Option Instr := if top f then none else some (k (imm3 f))

/-- The nibble `0 b2 b1 b0` of a bit number (R126). -/
def bit0 (n : BitVec 3) : Nibble := 0#1 ++ n

/-- The nibble `1 b2 b1 b0` of a bit number (R126). -/
def bit1 (n : BitVec 3) : Nibble := 1#1 ++ n

/-- The nibble `00ii` of a trap number (R126). -/
def trapNibble (x : BitVec 2) : Nibble := 0#2 ++ x

/-- The instruction, if the fixed-zero nibble is zero (R150). -/
def zero? (f : Nibble) (k : Option Instr) : Option Instr := if f = 0 then k else none

/-- Byte `i` of the rest of the instruction code. -/
def codeByte (t : List Byte) (i : Nat) : Byte := t.getD i 0

/-- The 16-bit big-endian field at byte `i` of the rest (R126, R127, R128). -/
def word16 (t : List Byte) (i : Nat) : BitVec 16 := codeByte t i ++ codeByte t (i + 1)

/-- The 24-bit big-endian field at byte `i` of the rest (R127). -/
def word24 (t : List Byte) (i : Nat) : BitVec 24 := codeByte t i ++ word16 t (i + 1)

/-- The 32-bit big-endian field at byte `i` of the rest (R126). -/
def word32 (t : List Byte) (i : Nat) : BitVec 32 := word16 t i ++ word16 t (i + 2)

/-- A 24-bit address or displacement in a 32-bit extension, whose first byte is H'00 (R120, R127, R150). -/
def ext24? (t : List Byte) (i : Nat) (k : BitVec 24 → Option Instr) : Option Instr :=
  if codeByte t i = 0 then k (word24 t (i + 1)) else none

/-! ### The decoder -/

/-- The length of an instruction in bytes (R121). -/
def Instr.length : Instr → Nat
  | .movWImm _ _ | .movBLoadDisp16 _ _ _ | .movBLoadAbs16 _ _ | .movWLoadDisp16 _ _ _
  | .movWLoadAbs16 _ _ | .movLLoadInd _ _ | .movLLoadInc _ _ | .movBStoreDisp16 _ _ _
  | .movBStoreAbs16 _ _ | .movWStoreDisp16 _ _ _ | .movWStoreAbs16 _ _ | .movLStoreInd _ _
  | .movLStoreDec _ _ | .popL _ | .pushL _ | .movfpe _ _ | .movtpe _ _ | .addWImm _ _
  | .subWImm _ _ | .mulxsB _ _ | .mulxsW _ _ | .divxsB _ _ | .divxsW _ _ | .cmpWImm _ _
  | .andWImm _ _ | .andLReg _ _ | .orWImm _ _ | .orLReg _ _ | .xorWImm _ _ | .xorLReg _ _
  | .bsetImmInd _ _ | .bsetImmAbs _ _ | .bsetRnInd _ _ | .bsetRnAbs _ _ | .bclrImmInd _ _
  | .bclrImmAbs _ _ | .bclrRnInd _ _ | .bclrRnAbs _ _ | .bnotImmInd _ _ | .bnotImmAbs _ _
  | .bnotRnInd _ _ | .bnotRnAbs _ _ | .btstImmInd _ _ | .btstImmAbs _ _ | .btstRnInd _ _
  | .btstRnAbs _ _ | .bandInd _ _ | .bandAbs _ _ | .biandInd _ _ | .biandAbs _ _ | .borInd _ _
  | .borAbs _ _ | .biorInd _ _ | .biorAbs _ _ | .bxorInd _ _ | .bxorAbs _ _ | .bixorInd _ _
  | .bixorAbs _ _ | .bldInd _ _ | .bldAbs _ _ | .bildInd _ _ | .bildAbs _ _ | .bstInd _ _
  | .bstAbs _ _ | .bistInd _ _ | .bistAbs _ _ | .braD16 _ | .brnD16 _ | .bhiD16 _ | .blsD16 _
  | .bccD16 _ | .bcsD16 _ | .bneD16 _ | .beqD16 _ | .bvcD16 _ | .bvsD16 _ | .bplD16 _ | .bmiD16 _
  | .bgeD16 _ | .bltD16 _ | .bgtD16 _ | .bleD16 _ | .bsrD16 _ | .jmpAbs _ | .jsrAbs _
  | .ldcLoadInd _ | .ldcLoadInc _ | .stcStoreInd _ | .stcStoreDec _ | .eepmovB | .eepmovW => 4
  | .movLImm _ _ | .movBLoadAbs24 _ _ | .movWLoadAbs24 _ _ | .movLLoadDisp16 _ _ _
  | .movLLoadAbs16 _ _ | .movBStoreAbs24 _ _ | .movWStoreAbs24 _ _ | .movLStoreDisp16 _ _ _
  | .movLStoreAbs16 _ _ | .addLImm _ _ | .subLImm _ _ | .cmpLImm _ _ | .andLImm _ _ | .orLImm _ _
  | .xorLImm _ _ | .ldcLoadDisp16 _ _ | .ldcLoadAbs16 _ | .stcStoreDisp16 _ _ | .stcStoreAbs16 _ => 6
  | .movBLoadDisp24 _ _ _ | .movWLoadDisp24 _ _ _ | .movLLoadAbs24 _ _ | .movBStoreDisp24 _ _ _
  | .movWStoreDisp24 _ _ _ | .movLStoreAbs24 _ _ | .ldcLoadAbs24 _ | .stcStoreAbs24 _ => 8
  | .movLLoadDisp24 _ _ _ | .movLStoreDisp24 _ _ _ | .ldcLoadDisp24 _ _ | .stcStoreDisp24 _ _ => 10
  | _ => 2

/-- The word after the prefix `01 00`: MOV.L with memory (R141, R209, R221, R226, R228). -/
def decodeMovL (b2 : Byte) (ch cl : Nibble) (t : List Byte) : Option Instr :=
  match b2 with
  | 0x69#8 => er0? cl fun r => if top ch then .movLStoreInd r (erLow ch) else .movLLoadInd (erLow ch) r
  | 0x6B#8 =>
    match ch with
    | 0x0#4 => er0? cl (.movLLoadAbs16 (word16 t 0))
    | 0x2#4 => ext24? t 0 fun a => er0? cl (.movLLoadAbs24 a)
    | 0x8#4 => er0? cl fun r => .movLStoreAbs16 r (word16 t 0)
    | 0xA#4 => ext24? t 0 fun a => er0? cl fun r => .movLStoreAbs24 r a
    | _ => none
  | 0x6D#8 =>
    match ch with
    | 0x7#4 => er0? cl .popL
    | 0xF#4 => er0? cl .pushL
    | _ => er0? cl fun r => if top ch then .movLStoreDec r (erLow ch) else .movLLoadInc (erLow ch) r
  | 0x6F#8 => er0? cl fun r =>
      if top ch then .movLStoreDisp16 r (word16 t 0) (erLow ch)
      else .movLLoadDisp16 (word16 t 0) (erLow ch) r
  | 0x78#8 => zero? cl <|
      match codeByte t 0, hi (codeByte t 1) with
      | 0x6B#8, 0x2#4 => ext24? t 2 fun d =>
          if top ch then none else er0? (lo (codeByte t 1)) (.movLLoadDisp24 d (erLow ch))
      | 0x6B#8, 0xA#4 => ext24? t 2 fun d =>
          if top ch then none else er0? (lo (codeByte t 1)) fun r => .movLStoreDisp24 r d (erLow ch)
      | _, _ => none
  | _ => none

/-- The word after the prefix `01 40`: LDC and STC with memory (R141, R516 to R531). -/
def decodeCcrMem (b2 : Byte) (ch cl : Nibble) (t : List Byte) : Option Instr :=
  zero? cl <|
  match b2 with
  | 0x69#8 => loadOrStore ch .ldcLoadInd .stcStoreInd
  | 0x6B#8 =>
    match ch with
    | 0x0#4 => some (.ldcLoadAbs16 (word16 t 0))
    | 0x2#4 => ext24? t 0 fun a => some (.ldcLoadAbs24 a)
    | 0x8#4 => some (.stcStoreAbs16 (word16 t 0))
    | 0xA#4 => ext24? t 0 fun a => some (.stcStoreAbs24 a)
    | _ => none
  | 0x6D#8 => loadOrStore ch .ldcLoadInc .stcStoreDec
  | 0x6F#8 => loadOrStore ch (.ldcLoadDisp16 (word16 t 0)) (.stcStoreDisp16 (word16 t 0))
  | 0x78#8 =>
      match codeByte t 0, codeByte t 1 with
      | 0x6B#8, 0x20#8 => ext24? t 2 fun d => er0? ch (.ldcLoadDisp24 d)
      | 0x6B#8, 0xA0#8 => ext24? t 2 fun d => er0? ch (.stcStoreDisp24 d)
      | _, _ => none
  | _ => none

/-- First byte `01` (R141, R142): the second byte, then the second word. -/
def decode01 (b1 : Byte) (t : List Byte) : Option Instr :=
  let b2 := codeByte t 0
  let ch := hi (codeByte t 1)
  let cl := lo (codeByte t 1)
  match b1 with
  | 0x00#8 => decodeMovL b2 ch cl (t.drop 2)
  | 0x40#8 => decodeCcrMem b2 ch cl (t.drop 2)
  | 0x80#8 => some .sleep
  | 0xC0#8 =>
    match b2 with
    | 0x50#8 => some (.mulxsB (r8 ch) (r16 cl))
    | 0x52#8 => er0? cl (.mulxsW (r16 ch))
    | _ => none
  | 0xD0#8 =>
    match b2 with
    | 0x51#8 => some (.divxsB (r8 ch) (r16 cl))
    | 0x53#8 => er0? cl (.divxsW (r16 ch))
    | _ => none
  | 0xF0#8 =>
    match b2 with
    | 0x64#8 => if top ch then none else er0? cl (.orLReg (erLow ch))
    | 0x65#8 => if top ch then none else er0? cl (.xorLReg (erLow ch))
    | 0x66#8 => if top ch then none else er0? cl (.andLReg (erLow ch))
    | _ => none
  | _ => none

/-- First byte `0x` (R130, R141). -/
def decode0 (al bh bl : Nibble) (b1 : Byte) (t : List Byte) : Option Instr :=
  match al with
  | 0x0#4 => zero? bh (zero? bl (some .nop))
  | 0x1#4 => decode01 b1 t
  | 0x2#4 => zero? bh (some (.stcReg (r8 bl)))
  | 0x3#4 => zero? bh (some (.ldcReg (r8 bl)))
  | 0x4#4 => some (.orc b1)
  | 0x5#4 => some (.xorc b1)
  | 0x6#4 => some (.andc b1)
  | 0x7#4 => some (.ldcImm b1)
  | 0x8#4 => some (.addBReg (r8 bh) (r8 bl))
  | 0x9#4 => some (.addWReg (r16 bh) (r16 bl))
  | 0xA#4 =>
    if bh = 0 then some (.incB (r8 bl)) else
    if top bh then er0? bl (.addLReg (erLow bh)) else none
  | 0xB#4 =>
    match bh with
    | 0x0#4 => er0? bl .adds1
    | 0x5#4 => some (.incW1 (r16 bl))
    | 0x7#4 => er0? bl .incL1
    | 0x8#4 => er0? bl .adds2
    | 0x9#4 => er0? bl .adds4
    | 0xD#4 => some (.incW2 (r16 bl))
    | 0xF#4 => er0? bl .incL2
    | _ => none
  | 0xC#4 => some (.movBReg (r8 bh) (r8 bl))
  | 0xD#4 => some (.movWReg (r16 bh) (r16 bl))
  | 0xE#4 => some (.addxReg (r8 bh) (r8 bl))
  | _ =>
    if bh = 0 then some (.daa (r8 bl)) else
    if top bh then er0? bl (.movLReg (erLow bh)) else none

/-- The second byte of `10` to `13`: the operation and size in BH, the register in BL (R141, R391). -/
def decodeShift (bh bl : Nibble) (b0 : R8 → Instr) (w0 : R16 → Instr) (l0 : ER → Instr)
    (b1 : R8 → Instr) (w1 : R16 → Instr) (l1 : ER → Instr) : Option Instr :=
  match bh with
  | 0x0#4 => some (b0 (r8 bl))
  | 0x1#4 => some (w0 (r16 bl))
  | 0x3#4 => er0? bl l0
  | 0x8#4 => some (b1 (r8 bl))
  | 0x9#4 => some (w1 (r16 bl))
  | 0xB#4 => er0? bl l1
  | _ => none

/-- First byte `1x` (R131, R141). -/
def decode1 (al bh bl : Nibble) : Option Instr :=
  match al with
  | 0x0#4 => decodeShift bh bl .shllB .shllW .shllL .shalB .shalW .shalL
  | 0x1#4 => decodeShift bh bl .shlrB .shlrW .shlrL .sharB .sharW .sharL
  | 0x2#4 => decodeShift bh bl .rotxlB .rotxlW .rotxlL .rotlB .rotlW .rotlL
  | 0x3#4 => decodeShift bh bl .rotxrB .rotxrW .rotxrL .rotrB .rotrW .rotrL
  | 0x4#4 => some (.orBReg (r8 bh) (r8 bl))
  | 0x5#4 => some (.xorBReg (r8 bh) (r8 bl))
  | 0x6#4 => some (.andBReg (r8 bh) (r8 bl))
  | 0x7#4 =>
    match bh with
    | 0x0#4 => some (.notB (r8 bl))
    | 0x1#4 => some (.notW (r16 bl))
    | 0x3#4 => er0? bl .notL
    | 0x5#4 => some (.extuW (r16 bl))
    | 0x7#4 => er0? bl .extuL
    | 0x8#4 => some (.negB (r8 bl))
    | 0x9#4 => some (.negW (r16 bl))
    | 0xB#4 => er0? bl .negL
    | 0xD#4 => some (.extsW (r16 bl))
    | 0xF#4 => er0? bl .extsL
    | _ => none
  | 0x8#4 => some (.subBReg (r8 bh) (r8 bl))
  | 0x9#4 => some (.subWReg (r16 bh) (r16 bl))
  | 0xA#4 =>
    if bh = 0 then some (.decB (r8 bl)) else
    if top bh then er0? bl (.subLReg (erLow bh)) else none
  | 0xB#4 =>
    match bh with
    | 0x0#4 => er0? bl .subs1
    | 0x5#4 => some (.decW1 (r16 bl))
    | 0x7#4 => er0? bl .decL1
    | 0x8#4 => er0? bl .subs2
    | 0x9#4 => er0? bl .subs4
    | 0xD#4 => some (.decW2 (r16 bl))
    | 0xF#4 => er0? bl .decL2
    | _ => none
  | 0xC#4 => some (.cmpBReg (r8 bh) (r8 bl))
  | 0xD#4 => some (.cmpWReg (r16 bh) (r16 bl))
  | 0xE#4 => some (.subxReg (r8 bh) (r8 bl))
  | _ =>
    if bh = 0 then some (.das (r8 bl)) else
    if top bh then er0? bl (.cmpLReg (erLow bh)) else none

/-- `4cc disp`: Bcc d:8 (R129, R133). -/
def decodeBccD8 (cc : Nibble) (d : BitVec 8) : Instr :=
  match cc with
  | 0x0#4 => .braD8 d | 0x1#4 => .brnD8 d | 0x2#4 => .bhiD8 d | 0x3#4 => .blsD8 d
  | 0x4#4 => .bccD8 d | 0x5#4 => .bcsD8 d | 0x6#4 => .bneD8 d | 0x7#4 => .beqD8 d
  | 0x8#4 => .bvcD8 d | 0x9#4 => .bvsD8 d | 0xA#4 => .bplD8 d | 0xB#4 => .bmiD8 d
  | 0xC#4 => .bgeD8 d | 0xD#4 => .bltD8 d | 0xE#4 => .bgtD8 d | _ => .bleD8 d

/-- `58 cc 0 disp16`: Bcc d:16 (R129, R141). -/
def decodeBccD16 (cc : Nibble) (d : BitVec 16) : Instr :=
  match cc with
  | 0x0#4 => .braD16 d | 0x1#4 => .brnD16 d | 0x2#4 => .bhiD16 d | 0x3#4 => .blsD16 d
  | 0x4#4 => .bccD16 d | 0x5#4 => .bcsD16 d | 0x6#4 => .bneD16 d | 0x7#4 => .beqD16 d
  | 0x8#4 => .bvcD16 d | 0x9#4 => .bvsD16 d | 0xA#4 => .bplD16 d | 0xB#4 => .bmiD16 d
  | 0xC#4 => .bgeD16 d | 0xD#4 => .bltD16 d | 0xE#4 => .bgtD16 d | _ => .bleD16 d

/-- First byte `5x` (R133). -/
def decode5 (al bh bl : Nibble) (b1 : Byte) (t : List Byte) : Option Instr :=
  match al with
  | 0x0#4 => some (.mulxuB (r8 bh) (r16 bl))
  | 0x1#4 => some (.divxuB (r8 bh) (r16 bl))
  | 0x2#4 => er0? bl (.mulxuW (r16 bh))
  | 0x3#4 => er0? bl (.divxuW (r16 bh))
  | 0x4#4 => if b1 = 0x70 then some .rts else none
  | 0x5#4 => some (.bsrD8 b1)
  | 0x6#4 => if b1 = 0x70 then some .rte else none
  | 0x7#4 => zero? bl (if bh.extractLsb' 2 2 = 0 then some (.trapa (bh.extractLsb' 0 2)) else none)
  | 0x8#4 => zero? bl (some (decodeBccD16 bh (word16 t 0)))
  | 0x9#4 => zero? bl (er0? bh .jmpInd)
  | 0xA#4 => some (.jmpAbs (b1 ++ word16 t 0))
  | 0xB#4 => some (.jmpMem b1)
  | 0xC#4 => zero? bh (zero? bl (some (.bsrD16 (word16 t 0))))
  | 0xD#4 => zero? bl (er0? bh .jsrInd)
  | 0xE#4 => some (.jsrAbs (b1 ++ word16 t 0))
  | _ => some (.jsrMem b1)

/-- First byte `6x` (R134, R136). -/
def decode6 (al bh bl : Nibble) (t : List Byte) : Option Instr :=
  match al with
  | 0x0#4 => some (.bsetRnReg (r8 bh) (r8 bl))
  | 0x1#4 => some (.bnotRnReg (r8 bh) (r8 bl))
  | 0x2#4 => some (.bclrRnReg (r8 bh) (r8 bl))
  | 0x3#4 => some (.btstRnReg (r8 bh) (r8 bl))
  | 0x4#4 => some (.orWReg (r16 bh) (r16 bl))
  | 0x5#4 => some (.xorWReg (r16 bh) (r16 bl))
  | 0x6#4 => some (.andWReg (r16 bh) (r16 bl))
  | 0x7#4 => imm3Either bh (.bstReg · (r8 bl)) (.bistReg · (r8 bl))
  | 0x8#4 => loadOrStore bh (.movBLoadInd · (r8 bl)) (.movBStoreInd (r8 bl))
  | 0x9#4 => loadOrStore bh (.movWLoadInd · (r16 bl)) (.movWStoreInd (r16 bl))
  | 0xA#4 =>
    match bh with
    | 0x0#4 => some (.movBLoadAbs16 (word16 t 0) (r8 bl))
    | 0x2#4 => ext24? t 0 fun a => some (.movBLoadAbs24 a (r8 bl))
    | 0x4#4 => some (.movfpe (word16 t 0) (r8 bl))
    | 0x8#4 => some (.movBStoreAbs16 (r8 bl) (word16 t 0))
    | 0xA#4 => ext24? t 0 fun a => some (.movBStoreAbs24 (r8 bl) a)
    | 0xC#4 => some (.movtpe (r8 bl) (word16 t 0))
    | _ => none
  | 0xB#4 =>
    match bh with
    | 0x0#4 => some (.movWLoadAbs16 (word16 t 0) (r16 bl))
    | 0x2#4 => ext24? t 0 fun a => some (.movWLoadAbs24 a (r16 bl))
    | 0x8#4 => some (.movWStoreAbs16 (r16 bl) (word16 t 0))
    | 0xA#4 => ext24? t 0 fun a => some (.movWStoreAbs24 (r16 bl) a)
    | _ => none
  | 0xC#4 => loadOrStore bh (.movBLoadInc · (r8 bl)) (.movBStoreDec (r8 bl))
  | 0xD#4 =>
    match bh with
    | 0x7#4 => some (.popW (r16 bl))
    | 0xF#4 => some (.pushW (r16 bl))
    | _ => loadOrStore bh (.movWLoadInc · (r16 bl)) (.movWStoreDec (r16 bl))
  | 0xE#4 => loadOrStore bh (.movBLoadDisp16 (word16 t 0) · (r8 bl)) (.movBStoreDisp16 (r8 bl) (word16 t 0))
  | _ => loadOrStore bh (.movWLoadDisp16 (word16 t 0) · (r16 bl)) (.movWStoreDisp16 (r16 bl) (word16 t 0))

/-- `78 0ern 0` and its second word: MOV.B and MOV.W with `@(d:24,ERn)` (R136). -/
def decode78 (bh bl : Nibble) (t : List Byte) : Option Instr :=
  zero? bl <| if top bh then none else
  let f := lo (codeByte t 1)
  match codeByte t 0, hi (codeByte t 1) with
  | 0x6A#8, 0x2#4 => ext24? t 2 fun d => some (.movBLoadDisp24 d (erLow bh) (r8 f))
  | 0x6A#8, 0xA#4 => ext24? t 2 fun d => some (.movBStoreDisp24 (r8 f) d (erLow bh))
  | 0x6B#8, 0x2#4 => ext24? t 2 fun d => some (.movWLoadDisp24 d (erLow bh) (r16 f))
  | 0x6B#8, 0xA#4 => ext24? t 2 fun d => some (.movWStoreDisp24 (r16 f) d (erLow bh))
  | _, _ => none

/-- `79 op rd imm16` (R141). -/
def decode79 (bh bl : Nibble) (imm : BitVec 16) : Option Instr :=
  match bh with
  | 0x0#4 => some (.movWImm imm (r16 bl))
  | 0x1#4 => some (.addWImm imm (r16 bl))
  | 0x2#4 => some (.cmpWImm imm (r16 bl))
  | 0x3#4 => some (.subWImm imm (r16 bl))
  | 0x4#4 => some (.orWImm imm (r16 bl))
  | 0x5#4 => some (.xorWImm imm (r16 bl))
  | 0x6#4 => some (.andWImm imm (r16 bl))
  | _ => none

/-- `7A op 0erd imm32` (R141). -/
def decode7A (bh bl : Nibble) (imm : BitVec 32) : Option Instr :=
  match bh with
  | 0x0#4 => er0? bl (.movLImm imm)
  | 0x1#4 => er0? bl (.addLImm imm)
  | 0x2#4 => er0? bl (.cmpLImm imm)
  | 0x3#4 => er0? bl (.subLImm imm)
  | 0x4#4 => er0? bl (.orLImm imm)
  | 0x5#4 => er0? bl (.xorLImm imm)
  | 0x6#4 => er0? bl (.andLImm imm)
  | _ => none

/-- The word after `7C 0erd 0` (R142). -/
def decode7C (e : ER) (b2 : Byte) (ch cl : Nibble) : Option Instr :=
  zero? cl <|
  match b2 with
  | 0x63#8 => some (.btstRnInd (r8 ch) e)
  | 0x73#8 => imm3? ch (.btstImmInd · e)
  | 0x74#8 => imm3Either ch (.borInd · e) (.biorInd · e)
  | 0x75#8 => imm3Either ch (.bxorInd · e) (.bixorInd · e)
  | 0x76#8 => imm3Either ch (.bandInd · e) (.biandInd · e)
  | 0x77#8 => imm3Either ch (.bldInd · e) (.bildInd · e)
  | _ => none

/-- The word after `7D 0erd 0` (R142). -/
def decode7D (e : ER) (b2 : Byte) (ch cl : Nibble) : Option Instr :=
  zero? cl <|
  match b2 with
  | 0x60#8 => some (.bsetRnInd (r8 ch) e)
  | 0x61#8 => some (.bnotRnInd (r8 ch) e)
  | 0x62#8 => some (.bclrRnInd (r8 ch) e)
  | 0x67#8 => imm3Either ch (.bstInd · e) (.bistInd · e)
  | 0x70#8 => imm3? ch (.bsetImmInd · e)
  | 0x71#8 => imm3? ch (.bnotImmInd · e)
  | 0x72#8 => imm3? ch (.bclrImmInd · e)
  | _ => none

/-- The word after `7E abs` (R142). -/
def decode7E (aa : BitVec 8) (b2 : Byte) (ch cl : Nibble) : Option Instr :=
  zero? cl <|
  match b2 with
  | 0x63#8 => some (.btstRnAbs (r8 ch) aa)
  | 0x73#8 => imm3? ch (.btstImmAbs · aa)
  | 0x74#8 => imm3Either ch (.borAbs · aa) (.biorAbs · aa)
  | 0x75#8 => imm3Either ch (.bxorAbs · aa) (.bixorAbs · aa)
  | 0x76#8 => imm3Either ch (.bandAbs · aa) (.biandAbs · aa)
  | 0x77#8 => imm3Either ch (.bldAbs · aa) (.bildAbs · aa)
  | _ => none

/-- The word after `7F abs` (R142). -/
def decode7F (aa : BitVec 8) (b2 : Byte) (ch cl : Nibble) : Option Instr :=
  zero? cl <|
  match b2 with
  | 0x60#8 => some (.bsetRnAbs (r8 ch) aa)
  | 0x61#8 => some (.bnotRnAbs (r8 ch) aa)
  | 0x62#8 => some (.bclrRnAbs (r8 ch) aa)
  | 0x67#8 => imm3Either ch (.bstAbs · aa) (.bistAbs · aa)
  | 0x70#8 => imm3? ch (.bsetImmAbs · aa)
  | 0x71#8 => imm3? ch (.bnotImmAbs · aa)
  | 0x72#8 => imm3? ch (.bclrImmAbs · aa)
  | _ => none

/-- First byte `7x` (R135, R141, R142). -/
def decode7 (al bh bl : Nibble) (b1 : Byte) (t : List Byte) : Option Instr :=
  let b2 := codeByte t 0
  let ch := hi (codeByte t 1)
  let cl := lo (codeByte t 1)
  match al with
  | 0x0#4 => imm3? bh (.bsetImmReg · (r8 bl))
  | 0x1#4 => imm3? bh (.bnotImmReg · (r8 bl))
  | 0x2#4 => imm3? bh (.bclrImmReg · (r8 bl))
  | 0x3#4 => imm3? bh (.btstImmReg · (r8 bl))
  | 0x4#4 => imm3Either bh (.borReg · (r8 bl)) (.biorReg · (r8 bl))
  | 0x5#4 => imm3Either bh (.bxorReg · (r8 bl)) (.bixorReg · (r8 bl))
  | 0x6#4 => imm3Either bh (.bandReg · (r8 bl)) (.biandReg · (r8 bl))
  | 0x7#4 => imm3Either bh (.bldReg · (r8 bl)) (.bildReg · (r8 bl))
  | 0x8#4 => decode78 bh bl t
  | 0x9#4 => decode79 bh bl (word16 t 0)
  | 0xA#4 => decode7A bh bl (word32 t 0)
  | 0xB#4 =>
    if b2 = 0x59 ∧ codeByte t 1 = 0x8F then
      if b1 = 0x5C then some .eepmovB else if b1 = 0xD4 then some .eepmovW else none
    else none
  | 0xC#4 => zero? bl (if top bh then none else decode7C (erLow bh) b2 ch cl)
  | 0xD#4 => zero? bl (if top bh then none else decode7D (erLow bh) b2 ch cl)
  | 0xE#4 => decode7E b1 b2 ch cl
  | _ => decode7F b1 b2 ch cl

/-- The instruction the bytes `b0 b1` and the following bytes `t` stand for; missing bytes read as
zero, and `none` says that the code is unassigned (R130 to R142, R150). -/
def decodeCode (b0 b1 : Byte) (t : List Byte) : Option Instr :=
  let al := lo b0
  let bh := hi b1
  let bl := lo b1
  match hi b0 with
  | 0x0#4 => decode0 al bh bl b1 t
  | 0x1#4 => decode1 al bh bl
  | 0x2#4 => some (.movBLoadAbs8 b1 (r8 al))
  | 0x3#4 => some (.movBStoreAbs8 (r8 al) b1)
  | 0x4#4 => some (decodeBccD8 al b1)
  | 0x5#4 => decode5 al bh bl b1 t
  | 0x6#4 => decode6 al bh bl t
  | 0x7#4 => decode7 al bh bl b1 t
  | 0x8#4 => some (.addBImm b1 (r8 al))
  | 0x9#4 => some (.addxImm b1 (r8 al))
  | 0xA#4 => some (.cmpBImm b1 (r8 al))
  | 0xB#4 => some (.subxImm b1 (r8 al))
  | 0xC#4 => some (.orBImm b1 (r8 al))
  | 0xD#4 => some (.xorBImm b1 (r8 al))
  | 0xE#4 => some (.andBImm b1 (r8 al))
  | _ => some (.movBImm b1 (r8 al))

/-- Why bytes do not decode. -/
inductive DecodeError where
  /-- The leading bytes name an instruction longer than what is left of the list. -/
  | truncated
  /-- The code is not assigned (R150). -/
  | unassigned
  deriving DecidableEq, Repr

/-- The instruction at the head of a list of bytes, lowest address first. -/
def decode (bytes : List Byte) : Except DecodeError Instr :=
  match bytes with
  | b0 :: b1 :: t =>
    match decodeCode b0 b1 t with
    | some i => if i.length ≤ bytes.length then .ok i else .error .truncated
    | none => .error .unassigned
  | _ => .error .truncated

/-- Steps 2 to 5 of R145 on the first two bytes of a word sequence without an `01` prefix. -/
def lengthOfWord (b0 b1 : Byte) : Nat :=
  match hi b0, lo b0 with
  | 0x5#4, 0x8#4 | 0x5#4, 0xA#4 | 0x5#4, 0xC#4 | 0x5#4, 0xE#4 => 4
  | 0x6#4, 0xA#4 | 0x6#4, 0xB#4 => if hi b1 = 0x2 ∨ hi b1 = 0xA then 6 else 4
  | 0x6#4, 0xE#4 | 0x6#4, 0xF#4 => 4
  | 0x7#4, 0x8#4 => 8
  | 0x7#4, 0xA#4 => 6
  | 0x7#4, 0x9#4 | 0x7#4, 0xB#4 | 0x7#4, 0xC#4 | 0x7#4, 0xD#4 | 0x7#4, 0xE#4 | 0x7#4, 0xF#4 => 4
  | _, _ => 2

/-- The length of an instruction as a function of its leading bytes alone (R121, R145). -/
def lengthOfCode (b0 b1 b2 b3 : Byte) : Nat :=
  if b0 = 0x01 then
    if b1 = 0x00 ∨ b1 = 0x40 then lengthOfWord b2 b3 + 2
    else if b1 = 0xC0 ∨ b1 = 0xD0 ∨ b1 = 0xF0 then 4 else 2
  else lengthOfWord b0 b1

/-! ### The encoder -/

/-- The words of an instruction, from its operand-format table; the rule is on its constructor. -/
def encode : Instr → List Byte
  | .movBReg rs rd => [0x0C, pack rs.code rd.code]
  | .movWReg rs rd => [0x0D, pack rs.code rd.code]
  | .movLReg ers erd => [0x0F, pack ers.code1 erd.code]
  | .movBImm imm rd => [pack 0xF rd.code, imm]
  | .movWImm imm rd => [0x79, pack 0x0 rd.code, byteOf imm 1, byteOf imm 0]
  | .movLImm imm erd => [0x7A, pack 0x0 erd.code, byteOf imm 3, byteOf imm 2, byteOf imm 1, byteOf imm 0]
  | .movBLoadInd ers rd => [0x68, pack ers.code rd.code]
  | .movBLoadDisp16 d ers rd => [0x6E, pack ers.code rd.code, byteOf d 1, byteOf d 0]
  | .movBLoadDisp24 d ers rd => [0x78, pack ers.code 0x0, 0x6A, pack 0x2 rd.code, 0x00, byteOf d 2, byteOf d 1, byteOf d 0]
  | .movBLoadInc ers rd => [0x6C, pack ers.code rd.code]
  | .movBLoadAbs8 aa rd => [pack 0x2 rd.code, aa]
  | .movBLoadAbs16 aa rd => [0x6A, pack 0x0 rd.code, byteOf aa 1, byteOf aa 0]
  | .movBLoadAbs24 aa rd => [0x6A, pack 0x2 rd.code, 0x00, byteOf aa 2, byteOf aa 1, byteOf aa 0]
  | .movWLoadInd ers rd => [0x69, pack ers.code rd.code]
  | .movWLoadDisp16 d ers rd => [0x6F, pack ers.code rd.code, byteOf d 1, byteOf d 0]
  | .movWLoadDisp24 d ers rd => [0x78, pack ers.code 0x0, 0x6B, pack 0x2 rd.code, 0x00, byteOf d 2, byteOf d 1, byteOf d 0]
  | .movWLoadInc ers rd => [0x6D, pack ers.code rd.code]
  | .movWLoadAbs16 aa rd => [0x6B, pack 0x0 rd.code, byteOf aa 1, byteOf aa 0]
  | .movWLoadAbs24 aa rd => [0x6B, pack 0x2 rd.code, 0x00, byteOf aa 2, byteOf aa 1, byteOf aa 0]
  | .movLLoadInd ers erd => [0x01, 0x00, 0x69, pack ers.code erd.code]
  | .movLLoadDisp16 d ers erd => [0x01, 0x00, 0x6F, pack ers.code erd.code, byteOf d 1, byteOf d 0]
  | .movLLoadDisp24 d ers erd => [0x01, 0x00, 0x78, pack ers.code 0x0, 0x6B, pack 0x2 erd.code, 0x00, byteOf d 2, byteOf d 1, byteOf d 0]
  | .movLLoadInc ers erd => [0x01, 0x00, 0x6D, pack ers.code erd.code]
  | .movLLoadAbs16 aa erd => [0x01, 0x00, 0x6B, pack 0x0 erd.code, byteOf aa 1, byteOf aa 0]
  | .movLLoadAbs24 aa erd => [0x01, 0x00, 0x6B, pack 0x2 erd.code, 0x00, byteOf aa 2, byteOf aa 1, byteOf aa 0]
  | .movBStoreInd rs erd => [0x68, pack erd.code1 rs.code]
  | .movBStoreDisp16 rs d erd => [0x6E, pack erd.code1 rs.code, byteOf d 1, byteOf d 0]
  | .movBStoreDisp24 rs d erd => [0x78, pack erd.code 0x0, 0x6A, pack 0xA rs.code, 0x00, byteOf d 2, byteOf d 1, byteOf d 0]
  | .movBStoreDec rs erd => [0x6C, pack erd.code1 rs.code]
  | .movBStoreAbs8 rs aa => [pack 0x3 rs.code, aa]
  | .movBStoreAbs16 rs aa => [0x6A, pack 0x8 rs.code, byteOf aa 1, byteOf aa 0]
  | .movBStoreAbs24 rs aa => [0x6A, pack 0xA rs.code, 0x00, byteOf aa 2, byteOf aa 1, byteOf aa 0]
  | .movWStoreInd rs erd => [0x69, pack erd.code1 rs.code]
  | .movWStoreDisp16 rs d erd => [0x6F, pack erd.code1 rs.code, byteOf d 1, byteOf d 0]
  | .movWStoreDisp24 rs d erd => [0x78, pack erd.code 0x0, 0x6B, pack 0xA rs.code, 0x00, byteOf d 2, byteOf d 1, byteOf d 0]
  | .movWStoreDec rs erd => [0x6D, pack erd.code1 rs.code]
  | .movWStoreAbs16 rs aa => [0x6B, pack 0x8 rs.code, byteOf aa 1, byteOf aa 0]
  | .movWStoreAbs24 rs aa => [0x6B, pack 0xA rs.code, 0x00, byteOf aa 2, byteOf aa 1, byteOf aa 0]
  | .movLStoreInd ers erd => [0x01, 0x00, 0x69, pack erd.code1 ers.code]
  | .movLStoreDisp16 ers d erd => [0x01, 0x00, 0x6F, pack erd.code1 ers.code, byteOf d 1, byteOf d 0]
  | .movLStoreDisp24 ers d erd => [0x01, 0x00, 0x78, pack erd.code 0x0, 0x6B, pack 0xA ers.code, 0x00, byteOf d 2, byteOf d 1, byteOf d 0]
  | .movLStoreDec ers erd => [0x01, 0x00, 0x6D, pack erd.code1 ers.code]
  | .movLStoreAbs16 ers aa => [0x01, 0x00, 0x6B, pack 0x8 ers.code, byteOf aa 1, byteOf aa 0]
  | .movLStoreAbs24 ers aa => [0x01, 0x00, 0x6B, pack 0xA ers.code, 0x00, byteOf aa 2, byteOf aa 1, byteOf aa 0]
  | .popW rn => [0x6D, pack 0x7 rn.code]
  | .popL ern => [0x01, 0x00, 0x6D, pack 0x7 ern.code]
  | .pushW rn => [0x6D, pack 0xF rn.code]
  | .pushL ern => [0x01, 0x00, 0x6D, pack 0xF ern.code]
  | .movfpe aa rd => [0x6A, pack 0x4 rd.code, byteOf aa 1, byteOf aa 0]
  | .movtpe rs aa => [0x6A, pack 0xC rs.code, byteOf aa 1, byteOf aa 0]
  | .addBImm imm rd => [pack 0x8 rd.code, imm]
  | .addBReg rs rd => [0x08, pack rs.code rd.code]
  | .addWImm imm rd => [0x79, pack 0x1 rd.code, byteOf imm 1, byteOf imm 0]
  | .addWReg rs rd => [0x09, pack rs.code rd.code]
  | .addLImm imm erd => [0x7A, pack 0x1 erd.code, byteOf imm 3, byteOf imm 2, byteOf imm 1, byteOf imm 0]
  | .addLReg ers erd => [0x0A, pack ers.code1 erd.code]
  | .adds1 erd => [0x0B, pack 0x0 erd.code]
  | .adds2 erd => [0x0B, pack 0x8 erd.code]
  | .adds4 erd => [0x0B, pack 0x9 erd.code]
  | .addxImm imm rd => [pack 0x9 rd.code, imm]
  | .addxReg rs rd => [0x0E, pack rs.code rd.code]
  | .subBReg rs rd => [0x18, pack rs.code rd.code]
  | .subWImm imm rd => [0x79, pack 0x3 rd.code, byteOf imm 1, byteOf imm 0]
  | .subWReg rs rd => [0x19, pack rs.code rd.code]
  | .subLImm imm erd => [0x7A, pack 0x3 erd.code, byteOf imm 3, byteOf imm 2, byteOf imm 1, byteOf imm 0]
  | .subLReg ers erd => [0x1A, pack ers.code1 erd.code]
  | .subs1 erd => [0x1B, pack 0x0 erd.code]
  | .subs2 erd => [0x1B, pack 0x8 erd.code]
  | .subs4 erd => [0x1B, pack 0x9 erd.code]
  | .subxImm imm rd => [pack 0xB rd.code, imm]
  | .subxReg rs rd => [0x1E, pack rs.code rd.code]
  | .incB rd => [0x0A, pack 0x0 rd.code]
  | .incW1 rd => [0x0B, pack 0x5 rd.code]
  | .incW2 rd => [0x0B, pack 0xD rd.code]
  | .incL1 erd => [0x0B, pack 0x7 erd.code]
  | .incL2 erd => [0x0B, pack 0xF erd.code]
  | .decB rd => [0x1A, pack 0x0 rd.code]
  | .decW1 rd => [0x1B, pack 0x5 rd.code]
  | .decW2 rd => [0x1B, pack 0xD rd.code]
  | .decL1 erd => [0x1B, pack 0x7 erd.code]
  | .decL2 erd => [0x1B, pack 0xF erd.code]
  | .daa rd => [0x0F, pack 0x0 rd.code]
  | .das rd => [0x1F, pack 0x0 rd.code]
  | .mulxuB rs rd => [0x50, pack rs.code rd.code]
  | .mulxuW rs erd => [0x52, pack rs.code erd.code]
  | .mulxsB rs rd => [0x01, 0xC0, 0x50, pack rs.code rd.code]
  | .mulxsW rs erd => [0x01, 0xC0, 0x52, pack rs.code erd.code]
  | .divxuB rs rd => [0x51, pack rs.code rd.code]
  | .divxuW rs erd => [0x53, pack rs.code erd.code]
  | .divxsB rs rd => [0x01, 0xD0, 0x51, pack rs.code rd.code]
  | .divxsW rs erd => [0x01, 0xD0, 0x53, pack rs.code erd.code]
  | .cmpBImm imm rd => [pack 0xA rd.code, imm]
  | .cmpBReg rs rd => [0x1C, pack rs.code rd.code]
  | .cmpWImm imm rd => [0x79, pack 0x2 rd.code, byteOf imm 1, byteOf imm 0]
  | .cmpWReg rs rd => [0x1D, pack rs.code rd.code]
  | .cmpLImm imm erd => [0x7A, pack 0x2 erd.code, byteOf imm 3, byteOf imm 2, byteOf imm 1, byteOf imm 0]
  | .cmpLReg ers erd => [0x1F, pack ers.code1 erd.code]
  | .negB rd => [0x17, pack 0x8 rd.code]
  | .negW rd => [0x17, pack 0x9 rd.code]
  | .negL erd => [0x17, pack 0xB erd.code]
  | .extsW rd => [0x17, pack 0xD rd.code]
  | .extsL erd => [0x17, pack 0xF erd.code]
  | .extuW rd => [0x17, pack 0x5 rd.code]
  | .extuL erd => [0x17, pack 0x7 erd.code]
  | .andBImm imm rd => [pack 0xE rd.code, imm]
  | .andBReg rs rd => [0x16, pack rs.code rd.code]
  | .andWImm imm rd => [0x79, pack 0x6 rd.code, byteOf imm 1, byteOf imm 0]
  | .andWReg rs rd => [0x66, pack rs.code rd.code]
  | .andLImm imm erd => [0x7A, pack 0x6 erd.code, byteOf imm 3, byteOf imm 2, byteOf imm 1, byteOf imm 0]
  | .andLReg ers erd => [0x01, 0xF0, 0x66, pack ers.code erd.code]
  | .orBImm imm rd => [pack 0xC rd.code, imm]
  | .orBReg rs rd => [0x14, pack rs.code rd.code]
  | .orWImm imm rd => [0x79, pack 0x4 rd.code, byteOf imm 1, byteOf imm 0]
  | .orWReg rs rd => [0x64, pack rs.code rd.code]
  | .orLImm imm erd => [0x7A, pack 0x4 erd.code, byteOf imm 3, byteOf imm 2, byteOf imm 1, byteOf imm 0]
  | .orLReg ers erd => [0x01, 0xF0, 0x64, pack ers.code erd.code]
  | .xorBImm imm rd => [pack 0xD rd.code, imm]
  | .xorBReg rs rd => [0x15, pack rs.code rd.code]
  | .xorWImm imm rd => [0x79, pack 0x5 rd.code, byteOf imm 1, byteOf imm 0]
  | .xorWReg rs rd => [0x65, pack rs.code rd.code]
  | .xorLImm imm erd => [0x7A, pack 0x5 erd.code, byteOf imm 3, byteOf imm 2, byteOf imm 1, byteOf imm 0]
  | .xorLReg ers erd => [0x01, 0xF0, 0x65, pack ers.code erd.code]
  | .notB rd => [0x17, pack 0x0 rd.code]
  | .notW rd => [0x17, pack 0x1 rd.code]
  | .notL erd => [0x17, pack 0x3 erd.code]
  | .shalB rd => [0x10, pack 0x8 rd.code]
  | .shalW rd => [0x10, pack 0x9 rd.code]
  | .shalL erd => [0x10, pack 0xB erd.code]
  | .sharB rd => [0x11, pack 0x8 rd.code]
  | .sharW rd => [0x11, pack 0x9 rd.code]
  | .sharL erd => [0x11, pack 0xB erd.code]
  | .shllB rd => [0x10, pack 0x0 rd.code]
  | .shllW rd => [0x10, pack 0x1 rd.code]
  | .shllL erd => [0x10, pack 0x3 erd.code]
  | .shlrB rd => [0x11, pack 0x0 rd.code]
  | .shlrW rd => [0x11, pack 0x1 rd.code]
  | .shlrL erd => [0x11, pack 0x3 erd.code]
  | .rotlB rd => [0x12, pack 0x8 rd.code]
  | .rotlW rd => [0x12, pack 0x9 rd.code]
  | .rotlL erd => [0x12, pack 0xB erd.code]
  | .rotrB rd => [0x13, pack 0x8 rd.code]
  | .rotrW rd => [0x13, pack 0x9 rd.code]
  | .rotrL erd => [0x13, pack 0xB erd.code]
  | .rotxlB rd => [0x12, pack 0x0 rd.code]
  | .rotxlW rd => [0x12, pack 0x1 rd.code]
  | .rotxlL erd => [0x12, pack 0x3 erd.code]
  | .rotxrB rd => [0x13, pack 0x0 rd.code]
  | .rotxrW rd => [0x13, pack 0x1 rd.code]
  | .rotxrL erd => [0x13, pack 0x3 erd.code]
  | .bsetImmReg n rd => [0x70, pack (bit0 n) rd.code]
  | .bsetImmInd n erd => [0x7D, pack erd.code 0x0, 0x70, pack (bit0 n) 0x0]
  | .bsetImmAbs n aa => [0x7F, aa, 0x70, pack (bit0 n) 0x0]
  | .bsetRnReg rn rd => [0x60, pack rn.code rd.code]
  | .bsetRnInd rn erd => [0x7D, pack erd.code 0x0, 0x60, pack rn.code 0x0]
  | .bsetRnAbs rn aa => [0x7F, aa, 0x60, pack rn.code 0x0]
  | .bclrImmReg n rd => [0x72, pack (bit0 n) rd.code]
  | .bclrImmInd n erd => [0x7D, pack erd.code 0x0, 0x72, pack (bit0 n) 0x0]
  | .bclrImmAbs n aa => [0x7F, aa, 0x72, pack (bit0 n) 0x0]
  | .bclrRnReg rn rd => [0x62, pack rn.code rd.code]
  | .bclrRnInd rn erd => [0x7D, pack erd.code 0x0, 0x62, pack rn.code 0x0]
  | .bclrRnAbs rn aa => [0x7F, aa, 0x62, pack rn.code 0x0]
  | .bnotImmReg n rd => [0x71, pack (bit0 n) rd.code]
  | .bnotImmInd n erd => [0x7D, pack erd.code 0x0, 0x71, pack (bit0 n) 0x0]
  | .bnotImmAbs n aa => [0x7F, aa, 0x71, pack (bit0 n) 0x0]
  | .bnotRnReg rn rd => [0x61, pack rn.code rd.code]
  | .bnotRnInd rn erd => [0x7D, pack erd.code 0x0, 0x61, pack rn.code 0x0]
  | .bnotRnAbs rn aa => [0x7F, aa, 0x61, pack rn.code 0x0]
  | .btstImmReg n rd => [0x73, pack (bit0 n) rd.code]
  | .btstImmInd n erd => [0x7C, pack erd.code 0x0, 0x73, pack (bit0 n) 0x0]
  | .btstImmAbs n aa => [0x7E, aa, 0x73, pack (bit0 n) 0x0]
  | .btstRnReg rn rd => [0x63, pack rn.code rd.code]
  | .btstRnInd rn erd => [0x7C, pack erd.code 0x0, 0x63, pack rn.code 0x0]
  | .btstRnAbs rn aa => [0x7E, aa, 0x63, pack rn.code 0x0]
  | .bandReg n rd => [0x76, pack (bit0 n) rd.code]
  | .bandInd n erd => [0x7C, pack erd.code 0x0, 0x76, pack (bit0 n) 0x0]
  | .bandAbs n aa => [0x7E, aa, 0x76, pack (bit0 n) 0x0]
  | .biandReg n rd => [0x76, pack (bit1 n) rd.code]
  | .biandInd n erd => [0x7C, pack erd.code 0x0, 0x76, pack (bit1 n) 0x0]
  | .biandAbs n aa => [0x7E, aa, 0x76, pack (bit1 n) 0x0]
  | .borReg n rd => [0x74, pack (bit0 n) rd.code]
  | .borInd n erd => [0x7C, pack erd.code 0x0, 0x74, pack (bit0 n) 0x0]
  | .borAbs n aa => [0x7E, aa, 0x74, pack (bit0 n) 0x0]
  | .biorReg n rd => [0x74, pack (bit1 n) rd.code]
  | .biorInd n erd => [0x7C, pack erd.code 0x0, 0x74, pack (bit1 n) 0x0]
  | .biorAbs n aa => [0x7E, aa, 0x74, pack (bit1 n) 0x0]
  | .bxorReg n rd => [0x75, pack (bit0 n) rd.code]
  | .bxorInd n erd => [0x7C, pack erd.code 0x0, 0x75, pack (bit0 n) 0x0]
  | .bxorAbs n aa => [0x7E, aa, 0x75, pack (bit0 n) 0x0]
  | .bixorReg n rd => [0x75, pack (bit1 n) rd.code]
  | .bixorInd n erd => [0x7C, pack erd.code 0x0, 0x75, pack (bit1 n) 0x0]
  | .bixorAbs n aa => [0x7E, aa, 0x75, pack (bit1 n) 0x0]
  | .bldReg n rd => [0x77, pack (bit0 n) rd.code]
  | .bldInd n erd => [0x7C, pack erd.code 0x0, 0x77, pack (bit0 n) 0x0]
  | .bldAbs n aa => [0x7E, aa, 0x77, pack (bit0 n) 0x0]
  | .bildReg n rd => [0x77, pack (bit1 n) rd.code]
  | .bildInd n erd => [0x7C, pack erd.code 0x0, 0x77, pack (bit1 n) 0x0]
  | .bildAbs n aa => [0x7E, aa, 0x77, pack (bit1 n) 0x0]
  | .bstReg n rd => [0x67, pack (bit0 n) rd.code]
  | .bstInd n erd => [0x7D, pack erd.code 0x0, 0x67, pack (bit0 n) 0x0]
  | .bstAbs n aa => [0x7F, aa, 0x67, pack (bit0 n) 0x0]
  | .bistReg n rd => [0x67, pack (bit1 n) rd.code]
  | .bistInd n erd => [0x7D, pack erd.code 0x0, 0x67, pack (bit1 n) 0x0]
  | .bistAbs n aa => [0x7F, aa, 0x67, pack (bit1 n) 0x0]
  | .braD8 d => [0x40, d]
  | .braD16 d => [0x58, 0x00, byteOf d 1, byteOf d 0]
  | .brnD8 d => [0x41, d]
  | .brnD16 d => [0x58, 0x10, byteOf d 1, byteOf d 0]
  | .bhiD8 d => [0x42, d]
  | .bhiD16 d => [0x58, 0x20, byteOf d 1, byteOf d 0]
  | .blsD8 d => [0x43, d]
  | .blsD16 d => [0x58, 0x30, byteOf d 1, byteOf d 0]
  | .bccD8 d => [0x44, d]
  | .bccD16 d => [0x58, 0x40, byteOf d 1, byteOf d 0]
  | .bcsD8 d => [0x45, d]
  | .bcsD16 d => [0x58, 0x50, byteOf d 1, byteOf d 0]
  | .bneD8 d => [0x46, d]
  | .bneD16 d => [0x58, 0x60, byteOf d 1, byteOf d 0]
  | .beqD8 d => [0x47, d]
  | .beqD16 d => [0x58, 0x70, byteOf d 1, byteOf d 0]
  | .bvcD8 d => [0x48, d]
  | .bvcD16 d => [0x58, 0x80, byteOf d 1, byteOf d 0]
  | .bvsD8 d => [0x49, d]
  | .bvsD16 d => [0x58, 0x90, byteOf d 1, byteOf d 0]
  | .bplD8 d => [0x4A, d]
  | .bplD16 d => [0x58, 0xA0, byteOf d 1, byteOf d 0]
  | .bmiD8 d => [0x4B, d]
  | .bmiD16 d => [0x58, 0xB0, byteOf d 1, byteOf d 0]
  | .bgeD8 d => [0x4C, d]
  | .bgeD16 d => [0x58, 0xC0, byteOf d 1, byteOf d 0]
  | .bltD8 d => [0x4D, d]
  | .bltD16 d => [0x58, 0xD0, byteOf d 1, byteOf d 0]
  | .bgtD8 d => [0x4E, d]
  | .bgtD16 d => [0x58, 0xE0, byteOf d 1, byteOf d 0]
  | .bleD8 d => [0x4F, d]
  | .bleD16 d => [0x58, 0xF0, byteOf d 1, byteOf d 0]
  | .bsrD8 d => [0x55, d]
  | .bsrD16 d => [0x5C, 0x00, byteOf d 1, byteOf d 0]
  | .jmpInd ern => [0x59, pack ern.code 0x0]
  | .jmpAbs aa => [0x5A, byteOf aa 2, byteOf aa 1, byteOf aa 0]
  | .jmpMem aa => [0x5B, aa]
  | .jsrInd ern => [0x5D, pack ern.code 0x0]
  | .jsrAbs aa => [0x5E, byteOf aa 2, byteOf aa 1, byteOf aa 0]
  | .jsrMem aa => [0x5F, aa]
  | .rts => [0x54, 0x70]
  | .trapa x => [0x57, pack (trapNibble x) 0x0]
  | .rte => [0x56, 0x70]
  | .sleep => [0x01, 0x80]
  | .nop => [0x00, 0x00]
  | .ldcImm imm => [0x07, imm]
  | .ldcReg rs => [0x03, pack 0x0 rs.code]
  | .stcReg rd => [0x02, pack 0x0 rd.code]
  | .andc imm => [0x06, imm]
  | .orc imm => [0x04, imm]
  | .xorc imm => [0x05, imm]
  | .ldcLoadInd ers => [0x01, 0x40, 0x69, pack ers.code 0x0]
  | .ldcLoadDisp16 d ers => [0x01, 0x40, 0x6F, pack ers.code 0x0, byteOf d 1, byteOf d 0]
  | .ldcLoadDisp24 d ers => [0x01, 0x40, 0x78, pack ers.code 0x0, 0x6B, 0x20, 0x00, byteOf d 2, byteOf d 1, byteOf d 0]
  | .ldcLoadInc ers => [0x01, 0x40, 0x6D, pack ers.code 0x0]
  | .ldcLoadAbs16 aa => [0x01, 0x40, 0x6B, 0x00, byteOf aa 1, byteOf aa 0]
  | .ldcLoadAbs24 aa => [0x01, 0x40, 0x6B, 0x20, 0x00, byteOf aa 2, byteOf aa 1, byteOf aa 0]
  | .stcStoreInd erd => [0x01, 0x40, 0x69, pack erd.code1 0x0]
  | .stcStoreDisp16 d erd => [0x01, 0x40, 0x6F, pack erd.code1 0x0, byteOf d 1, byteOf d 0]
  | .stcStoreDisp24 d erd => [0x01, 0x40, 0x78, pack erd.code 0x0, 0x6B, 0xA0, 0x00, byteOf d 2, byteOf d 1, byteOf d 0]
  | .stcStoreDec erd => [0x01, 0x40, 0x6D, pack erd.code1 0x0]
  | .stcStoreAbs16 aa => [0x01, 0x40, 0x6B, 0x80, byteOf aa 1, byteOf aa 0]
  | .stcStoreAbs24 aa => [0x01, 0x40, 0x6B, 0xA0, 0x00, byteOf aa 2, byteOf aa 1, byteOf aa 0]
  | .eepmovB => [0x7B, 0x5C, 0x59, 0x8F]
  | .eepmovW => [0x7B, 0xD4, 0x59, 0x8F]

/-! ### The words of the opcode table

spec/opcode_table.json numbers an instruction as one number, its first byte in the top bits (log 32). -/

/-- The number of bytes the longest instruction has (R121). -/
def maxLength : Nat := 10

/-- The `n` low bytes of a number, most significant first. -/
def bytesOfNumber : Nat → Nat → List Byte
  | 0, _ => []
  | n + 1, w => BitVec.ofNat 8 (w / 256 ^ n) :: bytesOfNumber n w

/-- The bytes of `n` 16-bit words, the first word in the low bits of the number. -/
def bytesOfWords : Nat → Nat → List Byte
  | 0, _ => []
  | n + 1, w => bytesOfNumber 2 (w % 65536) ++ bytesOfWords n (w / 65536)

/-- The bytes decode to an instruction of exactly their number. -/
def decodesWhole (bytes : List Byte) : Bool :=
  match decode bytes with
  | .ok i => i.length == bytes.length
  | .error _ => false

/-- Zero bytes up to the longest instruction. -/
def padded (bytes : List Byte) : List Byte := bytes ++ List.replicate (maxLength - bytes.length) 0

/-- The bytes a number of the opcode table stands for, padded: the table's own order; the other order
only where that one is no instruction of this length and the other is (log 32). -/
def tableBytes (nbits w : Nat) : List Byte :=
  let table := bytesOfNumber (nbits / 8) w
  let words := bytesOfWords (nbits / 16) w
  padded (if decodesWhole table then table else if decodesWhole words then words else table)

/-- The instruction the decoder reads from a number of the opcode table. -/
def decodeTableWord (nbits w : Nat) : Option Instr :=
  match decode (tableBytes nbits w) with
  | .ok i => some i
  | .error _ => none

end

end Sys2Proof
end

