-- ==== Sys2Proof/Config.lean ====
section
/-! DEFINITION. What an implementation fixes (the parameters of R8) and the free values: the values
the spec calls `any value` (93_implementation_defined.md), each an opaque constant applied to where it
arises and to the model's draw counter. -/

namespace Sys2Proof

/-- The CPU operating mode, chosen by the mode pins (R8, D1). -/
inductive Mode where
  | normal
  | advanced
  deriving DecidableEq, Repr

/-- What a window of the address space holds when it is not ordinary memory (D2). -/
inductive RegionKind where
  /-- Nothing answers: a read gives any value and a write is dropped. -/
  | absent
  /-- A device: reads and writes go to the host. -/
  | device
  deriving DecidableEq, Repr

/-- A window of the address space: `size` bytes from `base` on. -/
structure Region where
  base : Nat
  size : Nat
  kind : RegionKind
  deriving DecidableEq, Repr

/-- An interrupt source (R601, R626): NMI, another pin, or an on-chip peripheral module. Which pins and
modules there are is the chip's; the model numbers them. -/
inductive Source where
  | nmi
  | external (n : Nat)
  | internal (n : Nat)
  deriving DecidableEq, Repr

/-- VEC as data (R8, D4): a vector number for each listed source, and one for every other source. -/
structure VectorNumbers where
  listed : List (Source × Byte)
  others : Byte
  deriving DecidableEq, Repr

/-- The parameters of R8 that are fixed for a run, and the premise WARM_RESET of R702. -/
structure Params where
  /-- MODE. -/
  mode : Mode
  /-- UI_IS_MASK: CCR.UI is used as an interrupt mask bit. -/
  uiIsMask : Bool
  /-- HAS_ECLOCK: MOVFPE and MOVTPE may be used. -/
  hasEclock : Bool
  /-- WARM_RESET: a reset with power maintained keeps what it does not initialise. -/
  warmReset : Bool
  /-- MemMap: the windows that are not ordinary memory; the first that holds an address decides. -/
  memMap : List Region
  /-- VEC: the vector number of each interrupt source. -/
  vec : VectorNumbers
  deriving DecidableEq, Repr

/-- Which of the five values DAA and DAS leave open a free value stands for (R290 to R296). -/
inductive DecimalPart where
  | result | c | v | z | n | h
  deriving DecidableEq, Repr

/-- Where a free value arises. The operands it may depend on are part of the site, so that nothing
can be concluded from the value being the same for different operands. -/
inductive OpenSite where
  /-- A general register after a reset without WARM_RESET (R702, D17). -/
  | resetRegister (n : ER)
  /-- The CCR after a reset without WARM_RESET, but for I (R702, D17). -/
  | resetCcr
  /-- A general register in hardware standby (R647). -/
  | standbyRegister (n : ER)
  /-- The CCR in hardware standby (R647). -/
  | standbyCcr
  /-- The PC in hardware standby (R647). -/
  | standbyPc
  /-- A value DAA (`subtract` false) or DAS (true) does not guarantee (R290, R291, R295, R296). -/
  | decimal (subtract : Bool) (part : DecimalPart) (rd : Byte) (c h : Bool)
  /-- The destination of DIVXU.B (`signed` false) or DIVXS.B on a zero divisor or overflow (D11). -/
  | quotientB (signed : Bool) (dividend : Word) (divisor : Byte)
  /-- The destination of DIVXU.W or DIVXS.W on a zero divisor or overflow (D11). -/
  | quotientW (signed : Bool) (dividend : Long) (divisor : Word)
  /-- The reserved byte of the return frame BSR and JSR write in advanced mode (R477, D10). -/
  | reservedByte (returnAddress : Addr)
  /-- The byte STC.W writes at the odd address (R525, D21). -/
  | stcOddByte (ccr : Byte)
  /-- What a read of an absent or device address gives (D2). -/
  | busByte (address : Nat)
  deriving DecidableEq, Repr

/-- The free values: uninterpreted, so that a statement proved of the model holds whatever they are.
The second argument is the draw counter of the state (log 11). -/
opaque Config.openValue : OpenSite → Nat → BitVec 32

/-- One occurrence of an 8-bit free value, kept as data until something reads it. -/
structure OpenByte where
  site : OpenSite
  draw : Nat
  deriving DecidableEq, Repr

end Sys2Proof
end

