-- ==== Sys2Proof/Machine/State.lean ====
section
/-! DEFINITION. The state of the machine: everything the spec gives it (INVENTORY.md, State), the ways
a step can end without a next state, and the state after reset. -/

namespace Sys2Proof.Machine

/-- The eight general registers (R40). -/
structure Regs where
  er0 : Long
  er1 : Long
  er2 : Long
  er3 : Long
  er4 : Long
  er5 : Long
  er6 : Long
  er7 : Long
  deriving DecidableEq, Repr

/-- Memory: the bytes that differ from what an unlisted address reads as, and the bytes whose value is
open. Addresses rise strictly in both lists, and no address is in both (log 9, log 12). -/
structure Memory where
  /-- The bytes written with a known value other than zero. -/
  cells : List Host.Cell
  /-- The bytes that hold a free value (R477, R525). -/
  opens : List (Nat × OpenByte)
  deriving DecidableEq, Repr

/-- The state the bus-released state is left to (R648). -/
inductive BusHolder where
  | programExecution
  | exceptionHandling
  | sleep
  deriving DecidableEq, Repr

/-- The processing states (R66, R640). -/
inductive PState where
  | programExecution
  | exceptionHandling
  | sleep
  | softwareStandby
  | hardwareStandby
  | reset
  | busReleased (holder : BusHolder)
  deriving DecidableEq, Repr

/-- An interrupt request as the host presents it (R626, D5, D6). Its vector number is `VEC(source)`, a
parameter of the run. -/
structure Request where
  /-- Where it comes from. -/
  source : Source
  /-- The host's answer for this request when I = 1, UI = 0 and UI is a mask bit (R621). -/
  passesUi : Bool
  deriving DecidableEq, Repr

/-- What the host does at one step (R650). -/
inductive HostEvent where
  /-- Nothing. -/
  | idle
  /-- An interrupt request is present at the sampling point. -/
  | request (req : Request)
  /-- If the instruction of this step is EEPMOV.W, an NMI arrives during its byte number `after`. -/
  | nmiDuringBlock (after : Nat)
  /-- RES goes Low (R606). -/
  | resLow
  /-- RES goes High (R605). -/
  | resHigh
  /-- STBY goes Low (R647). -/
  | stbyLow
  /-- STBY goes High while RES is Low (R647). -/
  | stbyHigh
  /-- Another bus master requests the bus (R648). -/
  | busRequest
  /-- The bus request ends (R648). -/
  | busEnd
  /-- The other bus master writes a byte of memory (R114, R648). -/
  | masterWrite (address : Addr) (value : Byte)
  /-- The platform register that holds SSBY is written (R650). -/
  | setSsby (value : Bool)
  deriving DecidableEq, Repr

/-- A bus cycle at a device; an instruction fetch is a word read (R89, R90). -/
inductive BusCycle where
  | readByte (address : Addr)
  | readWord (address : Addr)
  | writeByte (address : Addr) (value : Byte)
  | writeWord (address : Addr) (value : Word)
  deriving DecidableEq, Repr

/-- The state of the machine. -/
structure State where
  /-- ER0 to ER7 (R40); ER7 is SP (R43). -/
  regs : Regs
  /-- PC, stored reduced (R50, R51). -/
  pc : Addr
  /-- CCR: I UI H U N Z V C from bit 7 to bit 0 (R55). -/
  ccr : Byte
  /-- Memory (R80, R82). -/
  mem : Memory
  /-- The processing state (R66). -/
  pstate : PState
  /-- `irq_inhibit` (R67, R622). -/
  irqInhibit : Bool
  /-- The first word of the next instruction, where it has been read already (R67, R112). -/
  prefetch : Option Word
  /-- The parameters fixed for a run (R8). -/
  par : Params
  /-- The SSBY bit (R8, R644). -/
  ssby : Bool
  /-- What the host does at the coming steps, one entry a step (R626, R650; log 22). -/
  host : List HostEvent
  /-- The bus cycles at devices so far, the latest first (R89, R90, R650; log 6). -/
  bus : List BusCycle
  /-- How many times a free value has been drawn: the model's own (log 11). -/
  draws : Nat
  deriving DecidableEq, Repr

/-- Faults. There is none: the CPU has no synchronous fault of any kind (R603), so no step raises one. -/
inductive Fault where
  deriving DecidableEq, Repr

/-- Refusals: the machine goes no further. -/
inductive Refusal where
  /-- An arm of `exec` without a meaning. No arm raises it: every instruction has its meaning. Safe. -/
  | notModelled (mnemonic : String)
  /-- Raised by `step` for a code the opcode tables do not assign, which it reports (R150, D3). Safe. -/
  | unassignedCode (code : List Byte)
  /-- Raised by MOVFPE and MOVTPE where there is no E clock (R230, R231, D13). Safe. -/
  | noEClock
  deriving DecidableEq, Repr

/-- What a step gives. -/
abbrev Result := Host.Outcome State Fault Refusal

/-- The machine right after reset exception handling (R702). The reset vector of empty memory is 0; the
general registers and the other seven bits of CCR are DESIGN CHOICE 0 (logs 7, 8, 9, 10), and so are the
parameters of this one machine, among them VEC (log 1). -/
def State.reset : State where
  regs := ⟨0, 0, 0, 0, 0, 0, 0, 0⟩
  pc := 0
  ccr := 0x80
  mem := ⟨[], []⟩
  pstate := .programExecution
  irqInhibit := true
  prefetch := none
  par := { mode := .advanced, uiIsMask := false, hasEclock := true, warmReset := false, memMap := [],
           vec := { listed := [(.nmi, 3)], others := 4 } }
  ssby := false
  host := []
  bus := []
  draws := 0

end Sys2Proof.Machine
end

