-- ==== Sys2Proof/Machine/Memory.lean ====
section
/-! DEFINITION. Memory as a map from byte addresses to bytes (R80, R85), in one canonical form. -/

namespace Sys2Proof.Machine

/-- The entry for an address in a list of pairs. -/
def assocGet? {α : Type} (a : Nat) : List (Nat × α) → Option α
  | [] => none
  | (b, x) :: t => if a = b then some x else assocGet? a t

/-- The list without the entry for an address. -/
def assocErase {α : Type} (a : Nat) : List (Nat × α) → List (Nat × α)
  | [] => []
  | (b, x) :: t => if a = b then assocErase a t else (b, x) :: assocErase a t

/-- The list with an entry put in at its place. -/
def assocInsert {α : Type} (a : Nat) (x : α) : List (Nat × α) → List (Nat × α)
  | [] => [(a, x)]
  | (b, y) :: t => if a < b then (a, x) :: (b, y) :: t else (b, y) :: assocInsert a x t

/-- Addresses rise strictly and are above a bound, if one is given. -/
def assocSorted {α : Type} : Option Nat → List (Nat × α) → Bool
  | _, [] => true
  | none, (b, _) :: t => assocSorted (some b) t
  | some l, (b, _) :: t => decide (l < b) && assocSorted (some b) t

/-- What an unlisted address reads as: DESIGN CHOICE zero (log 9). -/
def unlisted : Byte := 0

/-- The byte an open value stands for. -/
def openByteValue (o : OpenByte) : Byte := (Config.openValue o.site o.draw).setWidth 8

/-- The byte at an address (R85). -/
def Memory.get (m : Memory) (a : Nat) : Byte :=
  match assocGet? a m.opens with
  | some o => openByteValue o
  | none => (assocGet? a m.cells).getD unlisted

/-- Memory with the byte at an address replaced (R85). -/
def Memory.set (m : Memory) (a : Nat) (v : Byte) : Memory where
  cells := if v = unlisted then assocErase a m.cells else assocInsert a v (assocErase a m.cells)
  opens := assocErase a m.opens

/-- Memory with an open byte at an address (R477, R525). -/
def Memory.setOpen (m : Memory) (a : Nat) (o : OpenByte) : Memory where
  cells := assocErase a m.cells
  opens := assocInsert a o (assocErase a m.opens)

/-- The canonical form: both lists strictly rising, addresses within 24 bits, no entry equal to what an
unlisted address reads as, no address in both lists. -/
def Memory.wf (m : Memory) : Bool :=
  assocSorted none m.cells && assocSorted none m.opens
    && m.cells.all (fun c => decide (c.1 < 2 ^ 24) && decide (c.2 ≠ unlisted))
    && m.opens.all (fun o => decide (o.1 < 2 ^ 24) && (assocGet? o.1 m.cells).isNone)

end Sys2Proof.Machine
end

