-- ==== Sys2Proof/Machine/Ops.lean ====
section
/-! DEFINITION. The named operations over registers, CCR, PC and memory, taking an exception and
returning from one. Every meaning is written over these. -/

namespace Sys2Proof.Machine

/-! ### General registers (R40 to R43, R124) -/

/-- Register ERn. -/
def Regs.get (r : Regs) : ER → Long
  | .er0 => r.er0
  | .er1 => r.er1
  | .er2 => r.er2
  | .er3 => r.er3
  | .er4 => r.er4
  | .er5 => r.er5
  | .er6 => r.er6
  | .er7 => r.er7

/-- The registers with ERn replaced. -/
def Regs.set (r : Regs) (n : ER) (v : Long) : Regs :=
  match n with
  | .er0 => { r with er0 := v }
  | .er1 => { r with er1 := v }
  | .er2 => { r with er2 := v }
  | .er3 => { r with er3 := v }
  | .er4 => { r with er4 := v }
  | .er5 => { r with er5 := v }
  | .er6 => { r with er6 := v }
  | .er7 => { r with er7 := v }

/-- `ER[n]` (R40). -/
def State.reg32 (s : State) (n : ER) : Long := s.regs.get n

/-- `ER[n] <- v` (R40). -/
def State.setReg32 (s : State) (n : ER) (v : Long) : State := { s with regs := s.regs.set n v }

/-- `Reg16(f)`: Rn is bits 15 to 0 of ERn, En bits 31 to 16 (R41). -/
def State.reg16 (s : State) : R16 → Word
  | .r n => (s.reg32 n).extractLsb' 0 16
  | .e n => (s.reg32 n).extractLsb' 16 16

/-- `Reg16(f) <- v`: the other half of ERn is kept (R42). -/
def State.setReg16 (s : State) (r : R16) (v : Word) : State :=
  match r with
  | .r n => s.setReg32 n ((s.reg32 n).extractLsb' 16 16 ++ v)
  | .e n => s.setReg32 n (v ++ (s.reg32 n).extractLsb' 0 16)

/-- `Reg8(f)`: RnH is bits 15 to 8 of ERn, RnL bits 7 to 0 (R41). -/
def State.reg8 (s : State) : R8 → Byte
  | .h n => (s.reg32 n).extractLsb' 8 8
  | .l n => (s.reg32 n).extractLsb' 0 8

/-- `Reg8(f) <- v`: the other bits of ERn are kept (R42). -/
def State.setReg8 (s : State) (r : R8) (v : Byte) : State :=
  match r with
  | .h n => s.setReg32 n ((s.reg32 n).extractLsb' 16 16 ++ v ++ (s.reg32 n).extractLsb' 0 8)
  | .l n => s.setReg32 n ((s.reg32 n).extractLsb' 8 24 ++ v)

/-! ### The condition code register (R55 to R61) -/

/-- The bits of CCR. -/
inductive Flag where
  | c | v | z | n | u | h | ui | i
  deriving DecidableEq, Repr

/-- The bit number of a flag (R55). -/
def Flag.bit : Flag → Nat
  | .c => 0
  | .v => 1
  | .z => 2
  | .n => 3
  | .u => 4
  | .h => 5
  | .ui => 6
  | .i => 7

/-- A byte with one bit replaced. -/
def putBit (b : Byte) (n : Nat) (x : Bool) : Byte :=
  if x then b ||| BitVec.twoPow 8 n else b &&& ~~~(BitVec.twoPow 8 n)

/-- A bit of CCR. -/
def State.flag (s : State) (f : Flag) : Bool := s.ccr.getLsbD f.bit

/-- CCR with one bit replaced; the others are kept. -/
def State.setFlag (s : State) (f : Flag) (x : Bool) : State := { s with ccr := putBit s.ccr f.bit x }

/-- `CCR <- v`, all eight bits. -/
def State.setCcr (s : State) (v : Byte) : State := { s with ccr := v }

/-- `irq_inhibit <- true` (R513, R622). -/
def State.inhibit (s : State) : State := { s with irqInhibit := true }

/-! ### Addresses and PC -/

/-- `red(a)`: an address as memory sees it, 24 bits in advanced mode and 16 in normal mode (R80, R85). -/
def State.red (s : State) (a : Addr) : Addr :=
  match s.par.mode with
  | .normal => a &&& 0x00FFFF#24
  | .advanced => a

/-- An address with bit 0 regarded as 0 (R83, R84). -/
def even (a : Addr) : Addr := a &&& 0xFFFFFE#24

/-- The address of a word or longword access (R83, R85). -/
def State.wordAddr (s : State) (a : Addr) : Addr := even (s.red a)

/-- The form in which PC is stored (R51, log 17). -/
def State.pcForm (s : State) (t : Addr) : Addr := even (s.red t)

/-- `next`: the address after an instruction of a length (R52, R53). -/
def State.next (s : State) (length : Nat) : Addr := s.pcForm (s.pc + BitVec.ofNat 24 length)

/-- `pc <- t` (R51). -/
def State.jump (s : State) (t : Addr) : State := { s with pc := s.pcForm t }

/-- `pc <- next` (R52). -/
def State.advance (s : State) (length : Nat) : State := { s with pc := s.next length }

/-- The lower 24 bits of an address register (R92). -/
def low24 (v : Long) : Addr := v.setWidth 24

/-! ### Free values (log 11) -/

/-- The next free value of a site. -/
def State.freeValue (s : State) (site : OpenSite) : BitVec 32 := Config.openValue site s.draws

/-- The state after drawing a free value. -/
def State.drawn (s : State) : State := { s with draws := s.draws + 1 }

/-! ### Memory accesses (R80 to R90) -/

/-- What a reduced address holds: nothing listed is ordinary memory, and the first window that holds it
decides (R90, D2). -/
def regionKind (map : List Region) (a : Nat) : Option RegionKind :=
  match map with
  | [] => none
  | r :: t => if r.base ≤ a ∧ a < r.base + r.size then some r.kind else regionKind t a

/-- What a reduced address holds. -/
def State.kindAt (s : State) (a : Addr) : Option RegionKind := regionKind s.par.memMap a.toNat

/-- `MemRead(a, 1)` (R85): the byte of memory, or a free value in a window (D2). -/
def State.loadB (s : State) (a : Addr) : Byte :=
  let p := s.red a
  match s.kindAt p with
  | none => s.mem.get p.toNat
  | some _ => (s.freeValue (.busByte p.toNat)).setWidth 8

/-- `MemRead(a, 2)` (R85): one bus cycle at the even address, upper byte first (R82). -/
def State.loadW (s : State) (a : Addr) : Word :=
  let e := s.wordAddr a
  match s.kindAt e with
  | none => s.mem.get e.toNat ++ s.mem.get (s.red (e + 1#24)).toNat
  | some _ => (s.freeValue (.busByte e.toNat)).setWidth 8 ++ (s.freeValue (.busByte (e + 1#24).toNat)).setWidth 8

/-- `MemRead(a, 4)`: two word reads, EA first (R85, R86). -/
def State.loadL (s : State) (a : Addr) : Long := s.loadW a ++ s.loadW (s.wordAddr a + 2#24)

/-- What a read cycle leaves behind: nothing at memory, a used-up draw at an absent address, and an entry
in the transcript as well at a device (D2, R89, log 6). -/
def State.seen (s : State) (p : Addr) (cycle : BusCycle) : State :=
  match s.kindAt p with
  | none => s
  | some .absent => s.drawn
  | some .device => { s with bus := cycle :: s.bus, draws := s.draws + 1 }

/-- What a byte read leaves behind. -/
def State.seeB (s : State) (a : Addr) : State := s.seen (s.red a) (.readByte (s.red a))

/-- What a word read leaves behind. -/
def State.seeW (s : State) (a : Addr) : State := s.seen (s.wordAddr a) (.readWord (s.wordAddr a))

/-- What a longword read leaves behind: its two word reads in order (R86). -/
def State.seeL (s : State) (a : Addr) : State := (s.seeW a).seeW (s.wordAddr a + 2#24)

/-- A byte to be stored: a value, or a free one the source does not state. -/
inductive StoredByte where
  | value (v : Byte)
  | free (o : OpenByte)
  deriving DecidableEq, Repr

/-- The byte a device sees. -/
def StoredByte.byte : StoredByte → Byte
  | .value v => v
  | .free o => openByteValue o

/-- A stored byte put into memory. -/
def Memory.put (m : Memory) (a : Nat) : StoredByte → Memory
  | .value v => m.set a v
  | .free o => m.setOpen a o

/-- A write cycle: to memory, dropped at an absent address, to the host at a device (R90, D2). -/
def State.written (s : State) (p : Addr) (cycle : BusCycle) (m : Memory) : State :=
  match s.kindAt p with
  | none => { s with mem := m }
  | some .absent => s
  | some .device => { s with bus := cycle :: s.bus }

/-- `MemWrite(a, 1, v)` (R85). -/
def State.storeB (s : State) (a : Addr) (v : Byte) : State :=
  let p := s.red a
  s.written p (.writeByte p v) (s.mem.set p.toNat v)

/-- One word write cycle of two bytes, the upper at the even address (R82, R85). -/
def State.storeBytes (s : State) (a : Addr) (h l : StoredByte) : State :=
  let e := s.wordAddr a
  s.written e (.writeWord e (h.byte ++ l.byte)) ((s.mem.put e.toNat h).put (s.red (e + 1#24)).toNat l)

/-- `MemWrite(a, 2, v)` (R85). -/
def State.storeW (s : State) (a : Addr) (v : Word) : State :=
  s.storeBytes a (.value (v.extractLsb' 8 8)) (.value (v.extractLsb' 0 8))

/-- `MemWrite(a, 4, v)`: two word writes, EA first (R85, R86). -/
def State.storeL (s : State) (a : Addr) (v : Long) : State :=
  (s.storeW a (v.extractLsb' 16 16)).storeW (s.wordAddr a + 2#24) (v.extractLsb' 0 16)

/-! ### The word read ahead (R67, R112) -/

/-- The fetch cycle of the first word of what runs next, which is held until it runs. -/
def State.readAhead (s : State) (a : Addr) : State := { s.seeW a with prefetch := some (s.loadW a) }

/-- The fetch that ends a row of Table 2.10 which has not read the next word yet: NEXT after the data cycles,
the branch target, and the words of notes *4, *5 and *7 (R423, R470, R552, R605, R610). -/
def State.fetchDue (s : State) : State :=
  match s.prefetch with
  | some _ => s
  | none => s.readAhead s.pc

/-! ### Addresses stored in memory: vectors, pointers, return addresses -/

/-- A code address in memory: a word in normal mode, the low 24 bits of a longword in advanced mode
(R102, R480, R604). -/
def State.loadPointer (s : State) (a : Addr) : Addr :=
  match s.par.mode with
  | .normal => (s.loadW a).setWidth 24
  | .advanced => (s.loadL a).setWidth 24

/-- What reading a code address leaves behind. -/
def State.seePointer (s : State) (a : Addr) : State :=
  match s.par.mode with
  | .normal => s.seeW a
  | .advanced => s.seeL a

/-- The bytes a code address takes: the size of a vector, a pointer and a return frame. -/
def State.pointerSize (s : State) : Nat :=
  match s.par.mode with
  | .normal => 2
  | .advanced => 4

/-- `VecAddr(k)`: 2k in normal mode, 4k in advanced mode (R105, R604). -/
def State.vectorAddr (s : State) (k : Byte) : Addr :=
  match s.par.mode with
  | .normal => k.setWidth 24 * 2#24
  | .advanced => k.setWidth 24 * 4#24

/-- `PushReturn(ret)` (R477): the reserved byte of the advanced-mode frame is a free value (D10). -/
def State.pushReturn (s : State) (ret : Addr) : State :=
  match s.par.mode with
  | .normal =>
    let sp := s.reg32 .er7 - 2#32
    (s.setReg32 .er7 sp).storeW (low24 sp) (ret.extractLsb' 0 16)
  | .advanced =>
    let sp := s.reg32 .er7 - 4#32
    let s1 := s.setReg32 .er7 sp
    let s2 := s1.storeBytes (low24 sp) (.free ⟨.reservedByte ret, s.draws⟩) (.value (ret.extractLsb' 16 8))
    (s2.storeW (s2.wordAddr (low24 sp) + 2#24) (ret.extractLsb' 0 16)).drawn

/-! ### Exceptions -/

/-- The first vector number a list gives a source. -/
def vectorIn (listed : List (Source × Byte)) (others : Byte) (source : Source) : Byte :=
  match listed with
  | [] => others
  | (k, v) :: t => if k = source then v else vectorIn t others source

/-- `VEC(source)` (R8, D4). -/
def State.vectorOf (s : State) (source : Source) : Byte := vectorIn s.par.vec.listed s.par.vec.others source

/-- The second byte of an exception frame: a copy of CCR in normal mode, PC bits 23 to 16 in advanced
mode (R610, R611). -/
def State.frameByte (s : State) (ret : Addr) : Byte :=
  match s.par.mode with
  | .normal => s.ccr
  | .advanced => ret.extractLsb' 16 8

/-- The frame of an exception, low word first (R610, R611). -/
def State.pushFrame (s : State) (ret : Addr) : State :=
  let sp := s.reg32 .er7 - 4#32
  ((s.setReg32 .er7 sp).storeW (low24 (sp + 2#32)) (ret.extractLsb' 0 16)).storeW (low24 sp)
    (s.ccr ++ s.frameByte ret)

/-- CCR at exception entry: I set, and UI where it is a mask bit (R56, R57, R610). -/
def State.maskInterrupts (s : State) : State :=
  if s.par.uiIsMask then (s.setFlag .i true).setFlag .ui true else s.setFlag .i true

/-- The start of a handler: PC from its vector, read after the frame is written (R604, R610). Its first word
is still to be read. -/
def State.enterVector (s : State) (k : Byte) : State :=
  { (s.seePointer (s.vectorAddr k)).jump (s.loadPointer (s.vectorAddr k)) with
    pstate := .programExecution, prefetch := none }

/-- TAKING AN EXCEPTION: `ExceptionEntry(vector, ret)`, for interrupts and for TRAPA (R610). -/
def State.exceptionEntry (s : State) (k : Byte) (ret : Addr) : State :=
  ((s.pushFrame ret).maskInterrupts).enterVector k

/-- RETURNING FROM AN EXCEPTION: the frame is popped into CCR and PC (R503, R630). -/
def State.returnFromException (s : State) : State :=
  let sp := s.reg32 .er7
  let w0 := s.loadW (low24 sp)
  let w1 := s.loadW (low24 (sp + 2#32))
  let target : Addr :=
    match s.par.mode with
    | .normal => w1.setWidth 24
    | .advanced => w0.extractLsb' 0 8 ++ w1
  ((((s.seeW (low24 sp)).seeW (low24 (sp + 2#32))).setReg32 .er7 (sp + 4#32)).setCcr (w0.extractLsb' 8 8)).jump
    target

end Sys2Proof.Machine
end

