-- ==== Sys2Proof/Machine/Flags.lean ====
section
/-! DEFINITION. The flag computations (00_scope.md R19, 10_state.md R62) and the branch conditions (R471). -/

namespace Sys2Proof.Machine

variable {w : Nat}

/-- `carry_out(k)` of R19: the carry out of bit `k` of `a + b + cin`. -/
def carryOut (a b : BitVec w) (cin : Bool) (k : Nat) : Bool :=
  decide (2 ^ (k + 1) ≤ a.toNat % 2 ^ (k + 1) + b.toNat % 2 ^ (k + 1) + cin.toNat)

/-- `borrow(k)` of R19: the borrow into bit `k + 1` of `a - b - bin`. -/
def borrow (a b : BitVec w) (bin : Bool) (k : Nat) : Bool :=
  decide (a.toNat % 2 ^ (k + 1) < b.toNat % 2 ^ (k + 1) + bin.toNat)

/-- `a + b + cin`. -/
def sum (a b : BitVec w) (cin : Bool) : BitVec w := a + b + BitVec.ofNat w cin.toNat

/-- `a - b - bin`. -/
def difference (a b : BitVec w) (bin : Bool) : BitVec w := a - b - BitVec.ofNat w bin.toNat

/-- `ADD_V` of R19: the operands have one sign and the result the other. -/
def addOverflow (a b : BitVec w) (cin : Bool) : Bool :=
  (a.msb == b.msb) && ((sum a b cin).msb != a.msb)

/-- `SUB_V` of R19: the operands differ in sign and the result differs from the first. -/
def subOverflow (a b : BitVec w) (bin : Bool) : Bool :=
  (a.msb != b.msb) && ((difference a b bin).msb != a.msb)

/-- N and Z from a result (R60). -/
def State.setNZ (s : State) (r : BitVec w) : State := (s.setFlag .n r.msb).setFlag .z (r == 0#w)

/-- `SetNZ(v)` of the transfer and logic instructions: N and Z from the value, V cleared (R200, R360). -/
def State.setNZV0 (s : State) (r : BitVec w) : State := (s.setNZ r).setFlag .v false

/-- H, N, Z, V and C of an addition (R260). -/
def State.setAddFlags (s : State) (a b : BitVec w) (cin : Bool) : State :=
  (((s.setFlag .h (carryOut a b cin (w - 5))).setNZ (sum a b cin)).setFlag .v (addOverflow a b cin)).setFlag .c
    (carryOut a b cin (w - 1))

/-- H, N, Z, V and C of a subtraction, a comparison or a negation (R269, R335, R340). -/
def State.setSubFlags (s : State) (a b : BitVec w) (bin : Bool) : State :=
  (((s.setFlag .h (borrow a b bin (w - 5))).setNZ (difference a b bin)).setFlag .v (subOverflow a b bin)).setFlag .c
    (borrow a b bin (w - 1))

/-- Z of ADDX and SUBX: kept when the result is zero, cleared otherwise (R266, R276); `before` is Z before. -/
def State.stickyZ (s : State) (before : Bool) (r : BitVec w) : State := s.setFlag .z (before && (r == 0#w))

/-- The branch conditions in the order of the condition field (R129, R471). -/
inductive Cond where
  | ra | rn | hi | ls | cc | cs | ne | eq | vc | vs | pl | mi | ge | lt | gt | le
  deriving DecidableEq, Repr

/-- `Cond(cc)` (R471). -/
def Cond.holds (k : Cond) (s : State) : Bool :=
  match k with
  | .ra => true
  | .rn => false
  | .hi => !(s.flag .c || s.flag .z)
  | .ls => s.flag .c || s.flag .z
  | .cc => !s.flag .c
  | .cs => s.flag .c
  | .ne => !s.flag .z
  | .eq => s.flag .z
  | .vc => !s.flag .v
  | .vs => s.flag .v
  | .pl => !s.flag .n
  | .mi => s.flag .n
  | .ge => s.flag .n == s.flag .v
  | .lt => s.flag .n != s.flag .v
  | .gt => !s.flag .z && (s.flag .n == s.flag .v)
  | .le => s.flag .z || (s.flag .n != s.flag .v)

end Sys2Proof.Machine
end

