-- ==== Sys2Proof/Machine/AddSub.lean ====
section
/-! DEFINITION. Addition and subtraction: ADD, ADDS, ADDX, SUB, SUBS, SUBX, INC, DEC, DAA, DAS
(41_arithmetic_addsub.md). -/

namespace Sys2Proof.Machine

/-- Addition (R260) on bytes. -/
def addB (rd : R8) (b : Byte) (length : Nat) (s : State) : Result :=
  .next (((s.setReg8 rd (sum (s.reg8 rd) b false)).setAddFlags (s.reg8 rd) b false).advance length)

/-- Addition (R260) on words. -/
def addW (rd : R16) (b : Word) (length : Nat) (s : State) : Result :=
  .next (((s.setReg16 rd (sum (s.reg16 rd) b false)).setAddFlags (s.reg16 rd) b false).advance length)

/-- Addition (R260) on longwords. -/
def addL (erd : ER) (b : Long) (length : Nat) (s : State) : Result :=
  .next (((s.setReg32 erd (sum (s.reg32 erd) b false)).setAddFlags (s.reg32 erd) b false).advance length)

/-- Subtraction (R269) on bytes. -/
def subB (rd : R8) (b : Byte) (length : Nat) (s : State) : Result :=
  .next (((s.setReg8 rd (difference (s.reg8 rd) b false)).setSubFlags (s.reg8 rd) b false).advance length)

/-- Subtraction (R269) on words. -/
def subW (rd : R16) (b : Word) (length : Nat) (s : State) : Result :=
  .next (((s.setReg16 rd (difference (s.reg16 rd) b false)).setSubFlags (s.reg16 rd) b false).advance length)

/-- Subtraction (R269) on longwords. -/
def subL (erd : ER) (b : Long) (length : Nat) (s : State) : Result :=
  .next (((s.setReg32 erd (difference (s.reg32 erd) b false)).setSubFlags (s.reg32 erd) b false).advance length)

/-- Addition with carry: Z can only be cleared (R266). -/
def addxB (rd : R8) (b : Byte) (s : State) : Result :=
  let r := sum (s.reg8 rd) b (s.flag .c)
  .next ((((s.setReg8 rd r).setAddFlags (s.reg8 rd) b (s.flag .c)).stickyZ (s.flag .z) r).advance 2)

/-- Subtraction with borrow: Z can only be cleared (R276). -/
def subxB (rd : R8) (b : Byte) (s : State) : Result :=
  let r := difference (s.reg8 rd) b (s.flag .c)
  .next ((((s.setReg8 rd r).setSubFlags (s.reg8 rd) b (s.flag .c)).stickyZ (s.flag .z) r).advance 2)

/-- ADDS: no flag changes (R265). -/
def addsL (erd : ER) (k : Long) (s : State) : Result :=
  .next ((s.setReg32 erd (s.reg32 erd + k)).advance 2)

/-- SUBS: no flag changes (R275). -/
def subsL (erd : ER) (k : Long) (s : State) : Result :=
  .next ((s.setReg32 erd (s.reg32 erd - k)).advance 2)

/-- INC.B: H and C are kept (R279). -/
def incB (rd : R8) (k : Byte) (s : State) : Result :=
  let r := sum (s.reg8 rd) k false
  .next ((((s.setReg8 rd r).setNZ r).setFlag .v (addOverflow (s.reg8 rd) k false)).advance 2)

/-- INC.W: H and C are kept (R279). -/
def incW (rd : R16) (k : Word) (s : State) : Result :=
  let r := sum (s.reg16 rd) k false
  .next ((((s.setReg16 rd r).setNZ r).setFlag .v (addOverflow (s.reg16 rd) k false)).advance 2)

/-- INC.L: H and C are kept (R279). -/
def incL (erd : ER) (k : Long) (s : State) : Result :=
  let r := sum (s.reg32 erd) k false
  .next ((((s.setReg32 erd r).setNZ r).setFlag .v (addOverflow (s.reg32 erd) k false)).advance 2)

/-- DEC.B: H and C are kept (R279). -/
def decB (rd : R8) (k : Byte) (s : State) : Result :=
  let r := difference (s.reg8 rd) k false
  .next ((((s.setReg8 rd r).setNZ r).setFlag .v (subOverflow (s.reg8 rd) k false)).advance 2)

/-- DEC.W: H and C are kept (R279). -/
def decW (rd : R16) (k : Word) (s : State) : Result :=
  let r := difference (s.reg16 rd) k false
  .next ((((s.setReg16 rd r).setNZ r).setFlag .v (subOverflow (s.reg16 rd) k false)).advance 2)

/-- DEC.L: H and C are kept (R279). -/
def decL (erd : ER) (k : Long) (s : State) : Result :=
  let r := difference (s.reg32 erd) k false
  .next ((((s.setReg32 erd r).setNZ r).setFlag .v (subOverflow (s.reg32 erd) k false)).advance 2)

/-- The table of DAA (R290) with its C = 1 rows extended to upper digit 0 (R291, D20, log 16): the value
added and C after, or nothing outside the table. -/
def daaRow (c h : Bool) (b : Byte) : Option (Byte × Bool) :=
  let u := b.toNat / 16
  let l := b.toNat % 16
  match c, h with
  | false, false =>
    if u ≤ 9 ∧ l ≤ 9 then some (0x00#8, false)
    else if u ≤ 8 ∧ 10 ≤ l then some (0x06#8, false)
    else if 10 ≤ u ∧ l ≤ 9 then some (0x60#8, true)
    else some (0x66#8, true)
  | false, true =>
    if u ≤ 9 ∧ l ≤ 3 then some (0x06#8, false)
    else if 10 ≤ u ∧ l ≤ 3 then some (0x66#8, true)
    else none
  | true, false =>
    if u ≤ 2 ∧ l ≤ 9 then some (0x60#8, true)
    else if u ≤ 2 ∧ 10 ≤ l then some (0x66#8, true)
    else none
  | true, true =>
    if u ≤ 3 ∧ l ≤ 3 then some (0x66#8, true) else none

/-- The table of DAS (R295). -/
def dasRow (c h : Bool) (b : Byte) : Option (Byte × Bool) :=
  let u := b.toNat / 16
  let l := b.toNat % 16
  match c, h with
  | false, false => if u ≤ 9 ∧ l ≤ 9 then some (0x00#8, false) else none
  | false, true => if u ≤ 8 ∧ 6 ≤ l then some (0xFA#8, false) else none
  | true, false => if 7 ≤ u ∧ l ≤ 9 then some (0xA0#8, true) else none
  | true, true => if 6 ≤ u ∧ 6 ≤ l then some (0x9A#8, true) else none

/-- A free value of DAA or DAS for the operands at hand. -/
def decimalFree (subtract : Bool) (part : DecimalPart) (rd : R8) (s : State) : BitVec 32 :=
  s.freeValue (.decimal subtract part (s.reg8 rd) (s.flag .c) (s.flag .h))

/-- A decimal adjustment by a table: H and V are always open; outside the table so are the result and
C, Z and N (R290, R291, R295, R296, log 15). -/
def decimalAdjust (subtract : Bool) (row : Option (Byte × Bool)) (rd : R8) (s : State) : Result :=
  let free := fun part => decimalFree subtract part rd s
  let t :=
    match row with
    | some (k, c) => ((s.setReg8 rd (s.reg8 rd + k)).setNZ (s.reg8 rd + k)).setFlag .c c
    | none =>
      (((s.setReg8 rd ((free .result).setWidth 8)).setFlag .n ((free .n).getLsbD 0)).setFlag .z
        ((free .z).getLsbD 0)).setFlag .c ((free .c).getLsbD 0)
  .next ((((t.setFlag .h ((free .h).getLsbD 0)).setFlag .v ((free .v).getLsbD 0)).drawn).advance 2)

/-- `ADD.B #xx:8,Rd` (R261). -/
def execAddBImm (imm : BitVec 8) (rd : R8) (s : State) : Result :=
  addB rd imm 2 s

/-- `ADD.B Rs,Rd` (R261). -/
def execAddBReg (rs : R8) (rd : R8) (s : State) : Result :=
  addB rd (s.reg8 rs) 2 s

/-- `ADD.W #xx:16,Rd` (R262). -/
def execAddWImm (imm : BitVec 16) (rd : R16) (s : State) : Result :=
  addW rd imm 4 s

/-- `ADD.W Rs,Rd` (R262). -/
def execAddWReg (rs : R16) (rd : R16) (s : State) : Result :=
  addW rd (s.reg16 rs) 2 s

/-- `ADD.L #xx:32,ERd` (R263). -/
def execAddLImm (imm : BitVec 32) (erd : ER) (s : State) : Result :=
  addL erd imm 6 s

/-- `ADD.L ERs,ERd` (R263). -/
def execAddLReg (ers : ER) (erd : ER) (s : State) : Result :=
  addL erd (s.reg32 ers) 2 s

/-- `ADDS #1,ERd` (R265). -/
def execAdds1 (erd : ER) (s : State) : Result :=
  addsL erd 1#32 s

/-- `ADDS #2,ERd` (R265). -/
def execAdds2 (erd : ER) (s : State) : Result :=
  addsL erd 2#32 s

/-- `ADDS #4,ERd` (R265). -/
def execAdds4 (erd : ER) (s : State) : Result :=
  addsL erd 4#32 s

/-- `ADDX #xx:8,Rd` (R266). -/
def execAddxImm (imm : BitVec 8) (rd : R8) (s : State) : Result :=
  addxB rd imm s

/-- `ADDX Rs,Rd` (R266). -/
def execAddxReg (rs : R8) (rd : R8) (s : State) : Result :=
  addxB rd (s.reg8 rs) s

/-- `SUB.B Rs,Rd` (R270). -/
def execSubBReg (rs : R8) (rd : R8) (s : State) : Result :=
  subB rd (s.reg8 rs) 2 s

/-- `SUB.W #xx:16,Rd` (R271). -/
def execSubWImm (imm : BitVec 16) (rd : R16) (s : State) : Result :=
  subW rd imm 4 s

/-- `SUB.W Rs,Rd` (R271). -/
def execSubWReg (rs : R16) (rd : R16) (s : State) : Result :=
  subW rd (s.reg16 rs) 2 s

/-- `SUB.L #xx:32,ERd` (R272). -/
def execSubLImm (imm : BitVec 32) (erd : ER) (s : State) : Result :=
  subL erd imm 6 s

/-- `SUB.L ERs,ERd` (R272). -/
def execSubLReg (ers : ER) (erd : ER) (s : State) : Result :=
  subL erd (s.reg32 ers) 2 s

/-- `SUBS #1,ERd` (R275). -/
def execSubs1 (erd : ER) (s : State) : Result :=
  subsL erd 1#32 s

/-- `SUBS #2,ERd` (R275). -/
def execSubs2 (erd : ER) (s : State) : Result :=
  subsL erd 2#32 s

/-- `SUBS #4,ERd` (R275). -/
def execSubs4 (erd : ER) (s : State) : Result :=
  subsL erd 4#32 s

/-- `SUBX #xx:8,Rd` (R276). -/
def execSubxImm (imm : BitVec 8) (rd : R8) (s : State) : Result :=
  subxB rd imm s

/-- `SUBX Rs,Rd` (R276). -/
def execSubxReg (rs : R8) (rd : R8) (s : State) : Result :=
  subxB rd (s.reg8 rs) s

/-- `INC.B Rd` (R280). -/
def execIncB (rd : R8) (s : State) : Result :=
  incB rd 1#8 s

/-- `INC.W #1,Rd` (R281). -/
def execIncW1 (rd : R16) (s : State) : Result :=
  incW rd 1#16 s

/-- `INC.W #2,Rd` (R281). -/
def execIncW2 (rd : R16) (s : State) : Result :=
  incW rd 2#16 s

/-- `INC.L #1,ERd` (R282). -/
def execIncL1 (erd : ER) (s : State) : Result :=
  incL erd 1#32 s

/-- `INC.L #2,ERd` (R282). -/
def execIncL2 (erd : ER) (s : State) : Result :=
  incL erd 2#32 s

/-- `DEC.B Rd` (R285). -/
def execDecB (rd : R8) (s : State) : Result :=
  decB rd 1#8 s

/-- `DEC.W #1,Rd` (R286). -/
def execDecW1 (rd : R16) (s : State) : Result :=
  decW rd 1#16 s

/-- `DEC.W #2,Rd` (R286). -/
def execDecW2 (rd : R16) (s : State) : Result :=
  decW rd 2#16 s

/-- `DEC.L #1,ERd` (R287). -/
def execDecL1 (erd : ER) (s : State) : Result :=
  decL erd 1#32 s

/-- `DEC.L #2,ERd` (R287). -/
def execDecL2 (erd : ER) (s : State) : Result :=
  decL erd 2#32 s

/-- `DAA Rd` (R290). -/
def execDaa (rd : R8) (s : State) : Result :=
  decimalAdjust false (daaRow (s.flag .c) (s.flag .h) (s.reg8 rd)) rd s

/-- `DAS Rd` (R295). -/
def execDas (rd : R8) (s : State) : Result :=
  decimalAdjust true (dasRow (s.flag .c) (s.flag .h) (s.reg8 rd)) rd s

end Sys2Proof.Machine
end

