-- ==== Sys2Proof/Machine/Operands.lean ====
section
/-! DEFINITION. The memory operand forms and their effective addresses (20_memory.md R92 to R99). -/

namespace Sys2Proof.Machine

/-- A memory operand of MOV, LDC, STC and the bit instructions. -/
inductive MemOperand where
  /-- `@ERn` (R92). -/
  | ind (n : ER)
  /-- `@(d:16,ERn)` (R93). -/
  | disp16 (d : BitVec 16) (n : ER)
  /-- `@(d:24,ERn)` (R93). -/
  | disp24 (d : BitVec 24) (n : ER)
  /-- `@ERn+` (R95). -/
  | inc (n : ER)
  /-- `@-ERn` (R96). -/
  | dec (n : ER)
  /-- `@aa:8` (R97). -/
  | abs8 (a : BitVec 8)
  /-- `@aa:16` (R98). -/
  | abs16 (a : BitVec 16)
  /-- `@aa:24` (R99). -/
  | abs24 (a : BitVec 24)
  deriving DecidableEq, Repr

/-- The effective address, for an operand of a size in bytes, from the state before the instruction. -/
def MemOperand.ea (m : MemOperand) (size : Nat) (s : State) : Addr :=
  match m with
  | .ind n => low24 (s.reg32 n)
  | .disp16 d n => low24 (s.reg32 n + d.signExtend 32)
  | .disp24 d n => low24 (s.reg32 n + d.signExtend 32)
  | .inc n => low24 (s.reg32 n)
  | .dec n => low24 (s.reg32 n - BitVec.ofNat 32 size)
  | .abs8 a => 0xFFFF#16 ++ a
  | .abs16 a => a.signExtend 24
  | .abs24 a => a

/-- The address register stepped by an operand of a size in bytes: 32-bit arithmetic on the unrounded
register (R44, R84, R95, R96). -/
def MemOperand.step (m : MemOperand) (size : Nat) (s : State) : State :=
  match m with
  | .inc n => s.setReg32 n (s.reg32 n + BitVec.ofNat 32 size)
  | .dec n => s.setReg32 n (s.reg32 n - BitVec.ofNat 32 size)
  | _ => s

end Sys2Proof.Machine
end

