-- ==== Sys2Proof/Machine/Bits.lean ====
section
/-! DEFINITION. Bit manipulation (45_bit_manipulation.md). -/

namespace Sys2Proof.Machine

/-- The number a register names: its low three bits (R421). -/
def State.bitNumber (s : State) (rn : R8) : BitVec 3 := (s.reg8 rn).setWidth 3

/-- Bit `n` of a byte (R421). -/
def bitOf (n : BitVec 3) (b : Byte) : Bool := b.getLsbD n.toNat

/-- A byte with bit `n` replaced, the other bits as read (R423). -/
def withBit (n : BitVec 3) (x : Bool) (b : Byte) : Byte := putBit b n.toNat x

/-- A bit operation that writes a register: only that byte changes, no flag does (R423, R430). -/
def changeReg (rd : R8) (f : Byte → Byte) (s : State) : Result :=
  .next ((s.setReg8 rd (f (s.reg8 rd))).advance 2)

/-- A bit operation that writes memory: the byte is read, one bit changed, and the byte written back,
also when it is the same; the next word is read between the two (R423). -/
def changeMem (m : MemOperand) (f : Byte → Byte) (s : State) : Result :=
  .next ((((s.seeB (m.ea 1 s)).readAhead (s.next 4)).storeB (m.ea 1 s) (f (s.loadB (m.ea 1 s)))).advance 4)

/-- A bit operation that reads a register and sets one flag. -/
def testReg (rd : R8) (flag : Flag) (f : Byte → Bool) (s : State) : Result :=
  .next ((s.setFlag flag (f (s.reg8 rd))).advance 2)

/-- A bit operation that reads memory and sets one flag (R423). -/
def testMem (m : MemOperand) (flag : Flag) (f : Byte → Bool) (s : State) : Result :=
  .next (((s.seeB (m.ea 1 s)).setFlag flag (f (s.loadB (m.ea 1 s)))).advance 4)

/-- `BSET #xx:3,Rd` (R430). -/
def execBsetImmReg (n : BitVec 3) (rd : R8) (s : State) : Result :=
  changeReg rd (withBit n true) s

/-- `BSET #xx:3,@ERd` (R430). -/
def execBsetImmInd (n : BitVec 3) (erd : ER) (s : State) : Result :=
  changeMem (.ind erd) (withBit n true) s

/-- `BSET #xx:3,@aa:8` (R430). -/
def execBsetImmAbs (n : BitVec 3) (aa : BitVec 8) (s : State) : Result :=
  changeMem (.abs8 aa) (withBit n true) s

/-- `BSET Rn,Rd` (R430). -/
def execBsetRnReg (rn : R8) (rd : R8) (s : State) : Result :=
  changeReg rd (withBit (s.bitNumber rn) true) s

/-- `BSET Rn,@ERd` (R430). -/
def execBsetRnInd (rn : R8) (erd : ER) (s : State) : Result :=
  changeMem (.ind erd) (withBit (s.bitNumber rn) true) s

/-- `BSET Rn,@aa:8` (R430). -/
def execBsetRnAbs (rn : R8) (aa : BitVec 8) (s : State) : Result :=
  changeMem (.abs8 aa) (withBit (s.bitNumber rn) true) s

/-- `BCLR #xx:3,Rd` (R431). -/
def execBclrImmReg (n : BitVec 3) (rd : R8) (s : State) : Result :=
  changeReg rd (withBit n false) s

/-- `BCLR #xx:3,@ERd` (R431). -/
def execBclrImmInd (n : BitVec 3) (erd : ER) (s : State) : Result :=
  changeMem (.ind erd) (withBit n false) s

/-- `BCLR #xx:3,@aa:8` (R431). -/
def execBclrImmAbs (n : BitVec 3) (aa : BitVec 8) (s : State) : Result :=
  changeMem (.abs8 aa) (withBit n false) s

/-- `BCLR Rn,Rd` (R431). -/
def execBclrRnReg (rn : R8) (rd : R8) (s : State) : Result :=
  changeReg rd (withBit (s.bitNumber rn) false) s

/-- `BCLR Rn,@ERd` (R431). -/
def execBclrRnInd (rn : R8) (erd : ER) (s : State) : Result :=
  changeMem (.ind erd) (withBit (s.bitNumber rn) false) s

/-- `BCLR Rn,@aa:8` (R431). -/
def execBclrRnAbs (rn : R8) (aa : BitVec 8) (s : State) : Result :=
  changeMem (.abs8 aa) (withBit (s.bitNumber rn) false) s

/-- `BNOT #xx:3,Rd` (R432). -/
def execBnotImmReg (n : BitVec 3) (rd : R8) (s : State) : Result :=
  changeReg rd (fun b => withBit n (!bitOf n b) b) s

/-- `BNOT #xx:3,@ERd` (R432). -/
def execBnotImmInd (n : BitVec 3) (erd : ER) (s : State) : Result :=
  changeMem (.ind erd) (fun b => withBit n (!bitOf n b) b) s

/-- `BNOT #xx:3,@aa:8` (R432). -/
def execBnotImmAbs (n : BitVec 3) (aa : BitVec 8) (s : State) : Result :=
  changeMem (.abs8 aa) (fun b => withBit n (!bitOf n b) b) s

/-- `BNOT Rn,Rd` (R432). -/
def execBnotRnReg (rn : R8) (rd : R8) (s : State) : Result :=
  changeReg rd (fun b => withBit (s.bitNumber rn) (!bitOf (s.bitNumber rn) b) b) s

/-- `BNOT Rn,@ERd` (R432). -/
def execBnotRnInd (rn : R8) (erd : ER) (s : State) : Result :=
  changeMem (.ind erd) (fun b => withBit (s.bitNumber rn) (!bitOf (s.bitNumber rn) b) b) s

/-- `BNOT Rn,@aa:8` (R432). -/
def execBnotRnAbs (rn : R8) (aa : BitVec 8) (s : State) : Result :=
  changeMem (.abs8 aa) (fun b => withBit (s.bitNumber rn) (!bitOf (s.bitNumber rn) b) b) s

/-- `BTST #xx:3,Rd` (R433). -/
def execBtstImmReg (n : BitVec 3) (rd : R8) (s : State) : Result :=
  testReg rd .z (fun b => !bitOf n b) s

/-- `BTST #xx:3,@ERd` (R433). -/
def execBtstImmInd (n : BitVec 3) (erd : ER) (s : State) : Result :=
  testMem (.ind erd) .z (fun b => !bitOf n b) s

/-- `BTST #xx:3,@aa:8` (R433). -/
def execBtstImmAbs (n : BitVec 3) (aa : BitVec 8) (s : State) : Result :=
  testMem (.abs8 aa) .z (fun b => !bitOf n b) s

/-- `BTST Rn,Rd` (R433). -/
def execBtstRnReg (rn : R8) (rd : R8) (s : State) : Result :=
  testReg rd .z (fun b => !bitOf (s.bitNumber rn) b) s

/-- `BTST Rn,@ERd` (R433). -/
def execBtstRnInd (rn : R8) (erd : ER) (s : State) : Result :=
  testMem (.ind erd) .z (fun b => !bitOf (s.bitNumber rn) b) s

/-- `BTST Rn,@aa:8` (R433). -/
def execBtstRnAbs (rn : R8) (aa : BitVec 8) (s : State) : Result :=
  testMem (.abs8 aa) .z (fun b => !bitOf (s.bitNumber rn) b) s

/-- `BAND #xx:3,Rd` (R440). -/
def execBandReg (n : BitVec 3) (rd : R8) (s : State) : Result :=
  testReg rd .c (fun b => s.flag .c && bitOf n b) s

/-- `BAND #xx:3,@ERd` (R440). -/
def execBandInd (n : BitVec 3) (erd : ER) (s : State) : Result :=
  testMem (.ind erd) .c (fun b => s.flag .c && bitOf n b) s

/-- `BAND #xx:3,@aa:8` (R440). -/
def execBandAbs (n : BitVec 3) (aa : BitVec 8) (s : State) : Result :=
  testMem (.abs8 aa) .c (fun b => s.flag .c && bitOf n b) s

/-- `BIAND #xx:3,Rd` (R441). -/
def execBiandReg (n : BitVec 3) (rd : R8) (s : State) : Result :=
  testReg rd .c (fun b => s.flag .c && !bitOf n b) s

/-- `BIAND #xx:3,@ERd` (R441). -/
def execBiandInd (n : BitVec 3) (erd : ER) (s : State) : Result :=
  testMem (.ind erd) .c (fun b => s.flag .c && !bitOf n b) s

/-- `BIAND #xx:3,@aa:8` (R441). -/
def execBiandAbs (n : BitVec 3) (aa : BitVec 8) (s : State) : Result :=
  testMem (.abs8 aa) .c (fun b => s.flag .c && !bitOf n b) s

/-- `BOR #xx:3,Rd` (R442). -/
def execBorReg (n : BitVec 3) (rd : R8) (s : State) : Result :=
  testReg rd .c (fun b => s.flag .c || bitOf n b) s

/-- `BOR #xx:3,@ERd` (R442). -/
def execBorInd (n : BitVec 3) (erd : ER) (s : State) : Result :=
  testMem (.ind erd) .c (fun b => s.flag .c || bitOf n b) s

/-- `BOR #xx:3,@aa:8` (R442). -/
def execBorAbs (n : BitVec 3) (aa : BitVec 8) (s : State) : Result :=
  testMem (.abs8 aa) .c (fun b => s.flag .c || bitOf n b) s

/-- `BIOR #xx:3,Rd` (R443). -/
def execBiorReg (n : BitVec 3) (rd : R8) (s : State) : Result :=
  testReg rd .c (fun b => s.flag .c || !bitOf n b) s

/-- `BIOR #xx:3,@ERd` (R443). -/
def execBiorInd (n : BitVec 3) (erd : ER) (s : State) : Result :=
  testMem (.ind erd) .c (fun b => s.flag .c || !bitOf n b) s

/-- `BIOR #xx:3,@aa:8` (R443). -/
def execBiorAbs (n : BitVec 3) (aa : BitVec 8) (s : State) : Result :=
  testMem (.abs8 aa) .c (fun b => s.flag .c || !bitOf n b) s

/-- `BXOR #xx:3,Rd` (R444). -/
def execBxorReg (n : BitVec 3) (rd : R8) (s : State) : Result :=
  testReg rd .c (fun b => s.flag .c != bitOf n b) s

/-- `BXOR #xx:3,@ERd` (R444). -/
def execBxorInd (n : BitVec 3) (erd : ER) (s : State) : Result :=
  testMem (.ind erd) .c (fun b => s.flag .c != bitOf n b) s

/-- `BXOR #xx:3,@aa:8` (R444). -/
def execBxorAbs (n : BitVec 3) (aa : BitVec 8) (s : State) : Result :=
  testMem (.abs8 aa) .c (fun b => s.flag .c != bitOf n b) s

/-- `BIXOR #xx:3,Rd` (R445). -/
def execBixorReg (n : BitVec 3) (rd : R8) (s : State) : Result :=
  testReg rd .c (fun b => s.flag .c != !bitOf n b) s

/-- `BIXOR #xx:3,@ERd` (R445). -/
def execBixorInd (n : BitVec 3) (erd : ER) (s : State) : Result :=
  testMem (.ind erd) .c (fun b => s.flag .c != !bitOf n b) s

/-- `BIXOR #xx:3,@aa:8` (R445). -/
def execBixorAbs (n : BitVec 3) (aa : BitVec 8) (s : State) : Result :=
  testMem (.abs8 aa) .c (fun b => s.flag .c != !bitOf n b) s

/-- `BLD #xx:3,Rd` (R446). -/
def execBldReg (n : BitVec 3) (rd : R8) (s : State) : Result :=
  testReg rd .c (fun b => bitOf n b) s

/-- `BLD #xx:3,@ERd` (R446). -/
def execBldInd (n : BitVec 3) (erd : ER) (s : State) : Result :=
  testMem (.ind erd) .c (fun b => bitOf n b) s

/-- `BLD #xx:3,@aa:8` (R446). -/
def execBldAbs (n : BitVec 3) (aa : BitVec 8) (s : State) : Result :=
  testMem (.abs8 aa) .c (fun b => bitOf n b) s

/-- `BILD #xx:3,Rd` (R447). -/
def execBildReg (n : BitVec 3) (rd : R8) (s : State) : Result :=
  testReg rd .c (fun b => !bitOf n b) s

/-- `BILD #xx:3,@ERd` (R447). -/
def execBildInd (n : BitVec 3) (erd : ER) (s : State) : Result :=
  testMem (.ind erd) .c (fun b => !bitOf n b) s

/-- `BILD #xx:3,@aa:8` (R447). -/
def execBildAbs (n : BitVec 3) (aa : BitVec 8) (s : State) : Result :=
  testMem (.abs8 aa) .c (fun b => !bitOf n b) s

/-- `BST #xx:3,Rd` (R448). -/
def execBstReg (n : BitVec 3) (rd : R8) (s : State) : Result :=
  changeReg rd (withBit n (s.flag .c)) s

/-- `BST #xx:3,@ERd` (R448). -/
def execBstInd (n : BitVec 3) (erd : ER) (s : State) : Result :=
  changeMem (.ind erd) (withBit n (s.flag .c)) s

/-- `BST #xx:3,@aa:8` (R448). -/
def execBstAbs (n : BitVec 3) (aa : BitVec 8) (s : State) : Result :=
  changeMem (.abs8 aa) (withBit n (s.flag .c)) s

/-- `BIST #xx:3,Rd` (R449). -/
def execBistReg (n : BitVec 3) (rd : R8) (s : State) : Result :=
  changeReg rd (withBit n (!s.flag .c)) s

/-- `BIST #xx:3,@ERd` (R449). -/
def execBistInd (n : BitVec 3) (erd : ER) (s : State) : Result :=
  changeMem (.ind erd) (withBit n (!s.flag .c)) s

/-- `BIST #xx:3,@aa:8` (R449). -/
def execBistAbs (n : BitVec 3) (aa : BitVec 8) (s : State) : Result :=
  changeMem (.abs8 aa) (withBit n (!s.flag .c)) s

end Sys2Proof.Machine
end

