-- ==== Sys2Proof/Machine/Block.lean ====
section
/-! DEFINITION. Block transfer: EEPMOV.B and EEPMOV.W (48_block_transfer.md). -/

namespace Sys2Proof.Machine

/-- The two reads before the transfer, whose values are discarded (R552). -/
def State.dummyReads (s : State) : State := (s.seeB (low24 (s.reg32 .er5))).seeB (low24 (s.reg32 .er6))

/-- One byte copied from @ER5 to @ER6, both stepped by 1 (R550). -/
def State.copyByte (s : State) : State :=
  let v := s.loadB (low24 (s.reg32 .er5))
  let t := (s.seeB (low24 (s.reg32 .er5))).storeB (low24 (s.reg32 .er6)) v
  (t.setReg32 .er5 (t.reg32 .er5 + 1#32)).setReg32 .er6 (t.reg32 .er6 + 1#32)

/-- `n` bytes copied with R4L counting down (R550). -/
def State.copyBlockB : Nat → State → State
  | 0, s => s
  | n + 1, s => (s.copyByte.setReg8 (.l .er4) (s.copyByte.reg8 (.l .er4) - 1#8)).copyBlockB n

/-- `n` bytes copied with R4 counting down (R551). -/
def State.copyBlockW : Nat → State → State
  | 0, s => s
  | n + 1, s => (s.copyByte.setReg16 (.r .er4) (s.copyByte.reg16 (.r .er4) - 1#16)).copyBlockW n

/-- The bytes EEPMOV.W has copied when the NMI of this step stops it, if it arrives during one of the bytes
to copy (R553, R626, log 24). -/
def blockNmi (events : List HostEvent) (bytes : Nat) : Option Nat :=
  match events with
  | .nmiDuringBlock after :: _ => if 1 ≤ after ∧ after ≤ bytes then some after else none
  | _ => none

/-- `EEPMOV.B`: no interrupt is detected in it (R550). -/
def execEepmovB (s : State) : Result :=
  .next (((s.dummyReads).copyBlockB (s.reg8 (.l .er4)).toNat).advance 4)

/-- `EEPMOV.W`: an NMI ends it after the byte in progress, with the return address past it (R551). The reads
of NEXT and of the prefetch address stand between the transfer and the frame (R552, R610, log 24). -/
def execEepmovW (s : State) : Result :=
  let n := (s.reg16 (.r .er4)).toNat
  match blockNmi s.host n with
  | some k =>
    .next ((((s.dummyReads.copyBlockW k).seeW (s.next 4)).seeW (s.next 4 + 2#24)).exceptionEntry
      (s.vectorOf .nmi) (s.next 4))
  | none => .next ((s.dummyReads.copyBlockW n).advance 4)

end Sys2Proof.Machine
end

