-- ==== Sys2Proof/Machine/Branch.lean ====
section
/-! DEFINITION. Branches: Bcc, JMP, BSR, JSR, RTS (46_branch.md). No flag changes (R470). -/

namespace Sys2Proof.Machine

/-- A conditional branch with a 16-bit displacement, which is added to `next` (R101, R473). -/
def branch (k : Cond) (disp : Addr) (s : State) : Result :=
  .next (if k.holds s then s.jump (s.next 4 + disp) else s.advance 4)

/-- A conditional branch with an 8-bit displacement: the word at the branch address is read whether it is
taken or not, and it runs next if it is; otherwise the word of `next` does (R101, R470, R472, log 39). -/
def branchShort (k : Cond) (disp : Addr) (s : State) : Result :=
  let target := s.next 2 + disp
  let t := s.readAhead target
  .next (if k.holds s then t.jump target else State.advance { t with prefetch := s.prefetch } 2)

/-- The read of a call's target before the push. In memory it is the word after the push that runs (R474,
D16); in a window the word read is the one that runs. -/
def State.readTarget (s : State) (a : Addr) : State :=
  match s.kindAt (s.wordAddr a) with
  | none => s
  | some _ => s.readAhead a

/-- A subroutine call: the target is read, `next` is pushed and PC goes to the target (R474, R478). -/
def call (target : Addr) (length : Nat) (s : State) : Result :=
  .next (((s.readTarget target).pushReturn (s.next length)).jump target)

/-- A subroutine call through a pointer, which is read before the push; the target is read after it (R478). -/
def callThrough (pointer : Addr) (length : Nat) (s : State) : Result :=
  .next (((s.seePointer pointer).pushReturn (s.next length)).jump (s.loadPointer pointer))

/-- `BRA d:8` (R472). -/
def execBraD8 (d : BitVec 8) (s : State) : Result :=
  branchShort .ra (d.signExtend 24) s

/-- `BRA d:16` (R473). -/
def execBraD16 (d : BitVec 16) (s : State) : Result :=
  branch .ra (d.signExtend 24) s

/-- `BRN d:8` (R472). -/
def execBrnD8 (d : BitVec 8) (s : State) : Result :=
  branchShort .rn (d.signExtend 24) s

/-- `BRN d:16` (R473). -/
def execBrnD16 (d : BitVec 16) (s : State) : Result :=
  branch .rn (d.signExtend 24) s

/-- `BHI d:8` (R472). -/
def execBhiD8 (d : BitVec 8) (s : State) : Result :=
  branchShort .hi (d.signExtend 24) s

/-- `BHI d:16` (R473). -/
def execBhiD16 (d : BitVec 16) (s : State) : Result :=
  branch .hi (d.signExtend 24) s

/-- `BLS d:8` (R472). -/
def execBlsD8 (d : BitVec 8) (s : State) : Result :=
  branchShort .ls (d.signExtend 24) s

/-- `BLS d:16` (R473). -/
def execBlsD16 (d : BitVec 16) (s : State) : Result :=
  branch .ls (d.signExtend 24) s

/-- `BCC d:8` (R472). -/
def execBccD8 (d : BitVec 8) (s : State) : Result :=
  branchShort .cc (d.signExtend 24) s

/-- `BCC d:16` (R473). -/
def execBccD16 (d : BitVec 16) (s : State) : Result :=
  branch .cc (d.signExtend 24) s

/-- `BCS d:8` (R472). -/
def execBcsD8 (d : BitVec 8) (s : State) : Result :=
  branchShort .cs (d.signExtend 24) s

/-- `BCS d:16` (R473). -/
def execBcsD16 (d : BitVec 16) (s : State) : Result :=
  branch .cs (d.signExtend 24) s

/-- `BNE d:8` (R472). -/
def execBneD8 (d : BitVec 8) (s : State) : Result :=
  branchShort .ne (d.signExtend 24) s

/-- `BNE d:16` (R473). -/
def execBneD16 (d : BitVec 16) (s : State) : Result :=
  branch .ne (d.signExtend 24) s

/-- `BEQ d:8` (R472). -/
def execBeqD8 (d : BitVec 8) (s : State) : Result :=
  branchShort .eq (d.signExtend 24) s

/-- `BEQ d:16` (R473). -/
def execBeqD16 (d : BitVec 16) (s : State) : Result :=
  branch .eq (d.signExtend 24) s

/-- `BVC d:8` (R472). -/
def execBvcD8 (d : BitVec 8) (s : State) : Result :=
  branchShort .vc (d.signExtend 24) s

/-- `BVC d:16` (R473). -/
def execBvcD16 (d : BitVec 16) (s : State) : Result :=
  branch .vc (d.signExtend 24) s

/-- `BVS d:8` (R472). -/
def execBvsD8 (d : BitVec 8) (s : State) : Result :=
  branchShort .vs (d.signExtend 24) s

/-- `BVS d:16` (R473). -/
def execBvsD16 (d : BitVec 16) (s : State) : Result :=
  branch .vs (d.signExtend 24) s

/-- `BPL d:8` (R472). -/
def execBplD8 (d : BitVec 8) (s : State) : Result :=
  branchShort .pl (d.signExtend 24) s

/-- `BPL d:16` (R473). -/
def execBplD16 (d : BitVec 16) (s : State) : Result :=
  branch .pl (d.signExtend 24) s

/-- `BMI d:8` (R472). -/
def execBmiD8 (d : BitVec 8) (s : State) : Result :=
  branchShort .mi (d.signExtend 24) s

/-- `BMI d:16` (R473). -/
def execBmiD16 (d : BitVec 16) (s : State) : Result :=
  branch .mi (d.signExtend 24) s

/-- `BGE d:8` (R472). -/
def execBgeD8 (d : BitVec 8) (s : State) : Result :=
  branchShort .ge (d.signExtend 24) s

/-- `BGE d:16` (R473). -/
def execBgeD16 (d : BitVec 16) (s : State) : Result :=
  branch .ge (d.signExtend 24) s

/-- `BLT d:8` (R472). -/
def execBltD8 (d : BitVec 8) (s : State) : Result :=
  branchShort .lt (d.signExtend 24) s

/-- `BLT d:16` (R473). -/
def execBltD16 (d : BitVec 16) (s : State) : Result :=
  branch .lt (d.signExtend 24) s

/-- `BGT d:8` (R472). -/
def execBgtD8 (d : BitVec 8) (s : State) : Result :=
  branchShort .gt (d.signExtend 24) s

/-- `BGT d:16` (R473). -/
def execBgtD16 (d : BitVec 16) (s : State) : Result :=
  branch .gt (d.signExtend 24) s

/-- `BLE d:8` (R472). -/
def execBleD8 (d : BitVec 8) (s : State) : Result :=
  branchShort .le (d.signExtend 24) s

/-- `BLE d:16` (R473). -/
def execBleD16 (d : BitVec 16) (s : State) : Result :=
  branch .le (d.signExtend 24) s

/-- `BSR d:8` (R474). -/
def execBsrD8 (d : BitVec 8) (s : State) : Result :=
  call (s.next 2 + d.signExtend 24) 2 s

/-- `BSR d:16` (R474). -/
def execBsrD16 (d : BitVec 16) (s : State) : Result :=
  call (s.next 4 + d.signExtend 24) 4 s

/-- `JMP @ERn` (R476). -/
def execJmpInd (ern : ER) (s : State) : Result :=
  .next (s.jump (low24 (s.reg32 ern)))

/-- `JMP @aa:24` (R476). -/
def execJmpAbs (aa : BitVec 24) (s : State) : Result :=
  .next (s.jump aa)

/-- `JMP @@aa:8` (R476). -/
def execJmpMem (aa : BitVec 8) (s : State) : Result :=
  .next ((s.seePointer (aa.setWidth 24)).jump (s.loadPointer (aa.setWidth 24)))

/-- `JSR @ERn`, the target read before the push (R478). -/
def execJsrInd (ern : ER) (s : State) : Result :=
  call (low24 (s.reg32 ern)) 2 s

/-- `JSR @aa:24` (R478). -/
def execJsrAbs (aa : BitVec 24) (s : State) : Result :=
  call aa 4 s

/-- `JSR @@aa:8`, the pointer read before the push (R478). -/
def execJsrMem (aa : BitVec 8) (s : State) : Result :=
  callThrough (aa.setWidth 24) 2 s

/-- `RTS` (R480). -/
def execRts (s : State) : Result :=
  let sp := s.reg32 .er7
  .next (((s.seePointer (low24 sp)).setReg32 .er7 (sp + BitVec.ofNat 32 s.pointerSize)).jump
    (s.loadPointer (low24 sp)))

end Sys2Proof.Machine
end

