-- ==== Sys2Proof/Machine/DataTransfer.lean ====
section
/-! DEFINITION. Data transfer: MOV, POP, PUSH, MOVFPE, MOVTPE (40_data_transfer.md). -/

namespace Sys2Proof.Machine

/-- A byte moved to a register: flags from the value, PC past the instruction (R200, R201). -/
def moveB (rd : R8) (v : Byte) (length : Nat) (s : State) : Result :=
  .next (((s.setReg8 rd v).setNZV0 v).advance length)

/-- A word moved to a register (R200, R202). -/
def moveW (rd : R16) (v : Word) (length : Nat) (s : State) : Result :=
  .next (((s.setReg16 rd v).setNZV0 v).advance length)

/-- A longword moved to a register (R200, R203). -/
def moveL (erd : ER) (v : Long) (length : Nat) (s : State) : Result :=
  .next (((s.setReg32 erd v).setNZV0 v).advance length)

/-- A byte load: the address register is stepped first, then the data is written (R207, R210). -/
def loadMovB (m : MemOperand) (rd : R8) (length : Nat) (s : State) : Result :=
  moveB rd (s.loadB (m.ea 1 s)) length (m.step 1 (s.seeB (m.ea 1 s)))

/-- A word load (R208, R210). -/
def loadMovW (m : MemOperand) (rd : R16) (length : Nat) (s : State) : Result :=
  moveW rd (s.loadW (m.ea 2 s)) length (m.step 2 (s.seeW (m.ea 2 s)))

/-- A longword load (R209, R210). -/
def loadMovL (m : MemOperand) (erd : ER) (length : Nat) (s : State) : Result :=
  moveL erd (s.loadL (m.ea 4 s)) length (m.step 4 (s.seeL (m.ea 4 s)))

/-- A byte store: the address register is stepped first, then the source is read (R211). -/
def storeMovB (m : MemOperand) (rs : R8) (length : Nat) (s : State) : Result :=
  let v := (m.step 1 s).reg8 rs
  .next ((((m.step 1 s).storeB (m.ea 1 s) v).setNZV0 v).advance length)

/-- A word store (R216). -/
def storeMovW (m : MemOperand) (rs : R16) (length : Nat) (s : State) : Result :=
  let v := (m.step 2 s).reg16 rs
  .next ((((m.step 2 s).storeW (m.ea 2 s) v).setNZV0 v).advance length)

/-- A longword store (R221). -/
def storeMovL (m : MemOperand) (ers : ER) (length : Nat) (s : State) : Result :=
  let v := (m.step 4 s).reg32 ers
  .next ((((m.step 4 s).storeL (m.ea 4 s) v).setNZV0 v).advance length)

/-- `MOV.B Rs,Rd` (R201). -/
def execMovBReg (rs : R8) (rd : R8) (s : State) : Result :=
  moveB rd (s.reg8 rs) 2 s

/-- `MOV.W Rs,Rd` (R202). -/
def execMovWReg (rs : R16) (rd : R16) (s : State) : Result :=
  moveW rd (s.reg16 rs) 2 s

/-- `MOV.L ERs,ERd` (R203). -/
def execMovLReg (ers : ER) (erd : ER) (s : State) : Result :=
  moveL erd (s.reg32 ers) 2 s

/-- `MOV.B #xx:8,Rd` (R204). -/
def execMovBImm (imm : BitVec 8) (rd : R8) (s : State) : Result :=
  moveB rd imm 2 s

/-- `MOV.W #xx:16,Rd` (R205). -/
def execMovWImm (imm : BitVec 16) (rd : R16) (s : State) : Result :=
  moveW rd imm 4 s

/-- `MOV.L #xx:32,ERd` (R206). -/
def execMovLImm (imm : BitVec 32) (erd : ER) (s : State) : Result :=
  moveL erd imm 6 s

/-- `MOV.B @ERs,Rd` (R207). -/
def execMovBLoadInd (ers : ER) (rd : R8) (s : State) : Result :=
  loadMovB (.ind ers) rd 2 s

/-- `MOV.B @(d:16,ERs),Rd` (R207). -/
def execMovBLoadDisp16 (d : BitVec 16) (ers : ER) (rd : R8) (s : State) : Result :=
  loadMovB (.disp16 d ers) rd 4 s

/-- `MOV.B @(d:24,ERs),Rd` (R207). -/
def execMovBLoadDisp24 (d : BitVec 24) (ers : ER) (rd : R8) (s : State) : Result :=
  loadMovB (.disp24 d ers) rd 8 s

/-- `MOV.B @ERs+,Rd` (R207). -/
def execMovBLoadInc (ers : ER) (rd : R8) (s : State) : Result :=
  loadMovB (.inc ers) rd 2 s

/-- `MOV.B @aa:8,Rd` (R207). -/
def execMovBLoadAbs8 (aa : BitVec 8) (rd : R8) (s : State) : Result :=
  loadMovB (.abs8 aa) rd 2 s

/-- `MOV.B @aa:16,Rd` (R207). -/
def execMovBLoadAbs16 (aa : BitVec 16) (rd : R8) (s : State) : Result :=
  loadMovB (.abs16 aa) rd 4 s

/-- `MOV.B @aa:24,Rd` (R207). -/
def execMovBLoadAbs24 (aa : BitVec 24) (rd : R8) (s : State) : Result :=
  loadMovB (.abs24 aa) rd 6 s

/-- `MOV.W @ERs,Rd` (R208). -/
def execMovWLoadInd (ers : ER) (rd : R16) (s : State) : Result :=
  loadMovW (.ind ers) rd 2 s

/-- `MOV.W @(d:16,ERs),Rd` (R208). -/
def execMovWLoadDisp16 (d : BitVec 16) (ers : ER) (rd : R16) (s : State) : Result :=
  loadMovW (.disp16 d ers) rd 4 s

/-- `MOV.W @(d:24,ERs),Rd` (R208). -/
def execMovWLoadDisp24 (d : BitVec 24) (ers : ER) (rd : R16) (s : State) : Result :=
  loadMovW (.disp24 d ers) rd 8 s

/-- `MOV.W @ERs+,Rd` (R208). -/
def execMovWLoadInc (ers : ER) (rd : R16) (s : State) : Result :=
  loadMovW (.inc ers) rd 2 s

/-- `MOV.W @aa:16,Rd` (R208). -/
def execMovWLoadAbs16 (aa : BitVec 16) (rd : R16) (s : State) : Result :=
  loadMovW (.abs16 aa) rd 4 s

/-- `MOV.W @aa:24,Rd` (R208). -/
def execMovWLoadAbs24 (aa : BitVec 24) (rd : R16) (s : State) : Result :=
  loadMovW (.abs24 aa) rd 6 s

/-- `MOV.L @ERs,ERd` (R209). -/
def execMovLLoadInd (ers : ER) (erd : ER) (s : State) : Result :=
  loadMovL (.ind ers) erd 4 s

/-- `MOV.L @(d:16,ERs),ERd` (R209). -/
def execMovLLoadDisp16 (d : BitVec 16) (ers : ER) (erd : ER) (s : State) : Result :=
  loadMovL (.disp16 d ers) erd 6 s

/-- `MOV.L @(d:24,ERs),ERd` (R209). -/
def execMovLLoadDisp24 (d : BitVec 24) (ers : ER) (erd : ER) (s : State) : Result :=
  loadMovL (.disp24 d ers) erd 10 s

/-- `MOV.L @ERs+,ERd` (R209). -/
def execMovLLoadInc (ers : ER) (erd : ER) (s : State) : Result :=
  loadMovL (.inc ers) erd 4 s

/-- `MOV.L @aa:16,ERd` (R209). -/
def execMovLLoadAbs16 (aa : BitVec 16) (erd : ER) (s : State) : Result :=
  loadMovL (.abs16 aa) erd 6 s

/-- `MOV.L @aa:24,ERd` (R209). -/
def execMovLLoadAbs24 (aa : BitVec 24) (erd : ER) (s : State) : Result :=
  loadMovL (.abs24 aa) erd 8 s

/-- `MOV.B Rs,@ERd` (R211). -/
def execMovBStoreInd (rs : R8) (erd : ER) (s : State) : Result :=
  storeMovB (.ind erd) rs 2 s

/-- `MOV.B Rs,@(d:16,ERd)` (R211). -/
def execMovBStoreDisp16 (rs : R8) (d : BitVec 16) (erd : ER) (s : State) : Result :=
  storeMovB (.disp16 d erd) rs 4 s

/-- `MOV.B Rs,@(d:24,ERd)` (R211). -/
def execMovBStoreDisp24 (rs : R8) (d : BitVec 24) (erd : ER) (s : State) : Result :=
  storeMovB (.disp24 d erd) rs 8 s

/-- `MOV.B Rs,@-ERd` (R211). -/
def execMovBStoreDec (rs : R8) (erd : ER) (s : State) : Result :=
  storeMovB (.dec erd) rs 2 s

/-- `MOV.B Rs,@aa:8` (R211). -/
def execMovBStoreAbs8 (rs : R8) (aa : BitVec 8) (s : State) : Result :=
  storeMovB (.abs8 aa) rs 2 s

/-- `MOV.B Rs,@aa:16` (R211). -/
def execMovBStoreAbs16 (rs : R8) (aa : BitVec 16) (s : State) : Result :=
  storeMovB (.abs16 aa) rs 4 s

/-- `MOV.B Rs,@aa:24` (R211). -/
def execMovBStoreAbs24 (rs : R8) (aa : BitVec 24) (s : State) : Result :=
  storeMovB (.abs24 aa) rs 6 s

/-- `MOV.W Rs,@ERd` (R216). -/
def execMovWStoreInd (rs : R16) (erd : ER) (s : State) : Result :=
  storeMovW (.ind erd) rs 2 s

/-- `MOV.W Rs,@(d:16,ERd)` (R216). -/
def execMovWStoreDisp16 (rs : R16) (d : BitVec 16) (erd : ER) (s : State) : Result :=
  storeMovW (.disp16 d erd) rs 4 s

/-- `MOV.W Rs,@(d:24,ERd)` (R216). -/
def execMovWStoreDisp24 (rs : R16) (d : BitVec 24) (erd : ER) (s : State) : Result :=
  storeMovW (.disp24 d erd) rs 8 s

/-- `MOV.W Rs,@-ERd` (R216). -/
def execMovWStoreDec (rs : R16) (erd : ER) (s : State) : Result :=
  storeMovW (.dec erd) rs 2 s

/-- `MOV.W Rs,@aa:16` (R216). -/
def execMovWStoreAbs16 (rs : R16) (aa : BitVec 16) (s : State) : Result :=
  storeMovW (.abs16 aa) rs 4 s

/-- `MOV.W Rs,@aa:24` (R216). -/
def execMovWStoreAbs24 (rs : R16) (aa : BitVec 24) (s : State) : Result :=
  storeMovW (.abs24 aa) rs 6 s

/-- `MOV.L ERs,@ERd` (R221). -/
def execMovLStoreInd (ers : ER) (erd : ER) (s : State) : Result :=
  storeMovL (.ind erd) ers 4 s

/-- `MOV.L ERs,@(d:16,ERd)` (R221). -/
def execMovLStoreDisp16 (ers : ER) (d : BitVec 16) (erd : ER) (s : State) : Result :=
  storeMovL (.disp16 d erd) ers 6 s

/-- `MOV.L ERs,@(d:24,ERd)` (R221). -/
def execMovLStoreDisp24 (ers : ER) (d : BitVec 24) (erd : ER) (s : State) : Result :=
  storeMovL (.disp24 d erd) ers 10 s

/-- `MOV.L ERs,@-ERd` (R221). -/
def execMovLStoreDec (ers : ER) (erd : ER) (s : State) : Result :=
  storeMovL (.dec erd) ers 4 s

/-- `MOV.L ERs,@aa:16` (R221). -/
def execMovLStoreAbs16 (ers : ER) (aa : BitVec 16) (s : State) : Result :=
  storeMovL (.abs16 aa) ers 6 s

/-- `MOV.L ERs,@aa:24` (R221). -/
def execMovLStoreAbs24 (ers : ER) (aa : BitVec 24) (s : State) : Result :=
  storeMovL (.abs24 aa) ers 8 s

/-- `POP.W Rn`, the same as `MOV @ER7+` (R225). -/
def execPopW (rn : R16) (s : State) : Result :=
  loadMovW (.inc .er7) rn 2 s

/-- `POP.L ERn`, the same as `MOV @ER7+` (R226). -/
def execPopL (ern : ER) (s : State) : Result :=
  loadMovL (.inc .er7) ern 4 s

/-- `PUSH.W Rn`, the same as `MOV @-ER7` (R227). -/
def execPushW (rn : R16) (s : State) : Result :=
  storeMovW (.dec .er7) rn 2 s

/-- `PUSH.L ERn`, the same as `MOV @-ER7` (R228). -/
def execPushL (ern : ER) (s : State) : Result :=
  storeMovL (.dec .er7) ern 4 s

/-- `MOVFPE @aa:16,Rd`, an ordinary byte read where there is an E clock (R230). -/
def execMovfpe (aa : BitVec 16) (rd : R8) (s : State) : Result :=
  if s.par.hasEclock then loadMovB (.abs16 aa) rd 4 s else .refused .noEClock

/-- `MOVTPE Rs,@aa:16`, an ordinary byte write where there is an E clock (R231). -/
def execMovtpe (rs : R8) (aa : BitVec 16) (s : State) : Result :=
  if s.par.hasEclock then storeMovB (.abs16 aa) rs 4 s else .refused .noEClock

end Sys2Proof.Machine
end

