-- ==== Sys2Proof/Machine/Logic.lean ====
section
/-! DEFINITION. AND, OR, XOR, NOT (43_logic.md). -/

namespace Sys2Proof.Machine

/-- A byte result: N and Z from it, V cleared, H and C kept (R360). -/
def logicB (rd : R8) (r : Byte) (length : Nat) (s : State) : Result :=
  .next (((s.setReg8 rd r).setNZV0 r).advance length)

/-- A word result (R360). -/
def logicW (rd : R16) (r : Word) (length : Nat) (s : State) : Result :=
  .next (((s.setReg16 rd r).setNZV0 r).advance length)

/-- A longword result (R360). -/
def logicL (erd : ER) (r : Long) (length : Nat) (s : State) : Result :=
  .next (((s.setReg32 erd r).setNZV0 r).advance length)

/-- `AND.B #xx:8,Rd` (R361). -/
def execAndBImm (imm : BitVec 8) (rd : R8) (s : State) : Result :=
  logicB rd (s.reg8 rd &&& imm) 2 s

/-- `AND.B Rs,Rd` (R361). -/
def execAndBReg (rs : R8) (rd : R8) (s : State) : Result :=
  logicB rd (s.reg8 rd &&& s.reg8 rs) 2 s

/-- `AND.W #xx:16,Rd` (R362). -/
def execAndWImm (imm : BitVec 16) (rd : R16) (s : State) : Result :=
  logicW rd (s.reg16 rd &&& imm) 4 s

/-- `AND.W Rs,Rd` (R362). -/
def execAndWReg (rs : R16) (rd : R16) (s : State) : Result :=
  logicW rd (s.reg16 rd &&& s.reg16 rs) 2 s

/-- `AND.L #xx:32,ERd` (R363). -/
def execAndLImm (imm : BitVec 32) (erd : ER) (s : State) : Result :=
  logicL erd (s.reg32 erd &&& imm) 6 s

/-- `AND.L ERs,ERd` (R363). -/
def execAndLReg (ers : ER) (erd : ER) (s : State) : Result :=
  logicL erd (s.reg32 erd &&& s.reg32 ers) 4 s

/-- `OR.B #xx:8,Rd` (R365). -/
def execOrBImm (imm : BitVec 8) (rd : R8) (s : State) : Result :=
  logicB rd (s.reg8 rd ||| imm) 2 s

/-- `OR.B Rs,Rd` (R365). -/
def execOrBReg (rs : R8) (rd : R8) (s : State) : Result :=
  logicB rd (s.reg8 rd ||| s.reg8 rs) 2 s

/-- `OR.W #xx:16,Rd` (R366). -/
def execOrWImm (imm : BitVec 16) (rd : R16) (s : State) : Result :=
  logicW rd (s.reg16 rd ||| imm) 4 s

/-- `OR.W Rs,Rd` (R366). -/
def execOrWReg (rs : R16) (rd : R16) (s : State) : Result :=
  logicW rd (s.reg16 rd ||| s.reg16 rs) 2 s

/-- `OR.L #xx:32,ERd` (R367). -/
def execOrLImm (imm : BitVec 32) (erd : ER) (s : State) : Result :=
  logicL erd (s.reg32 erd ||| imm) 6 s

/-- `OR.L ERs,ERd` (R367). -/
def execOrLReg (ers : ER) (erd : ER) (s : State) : Result :=
  logicL erd (s.reg32 erd ||| s.reg32 ers) 4 s

/-- `XOR.B #xx:8,Rd` (R370). -/
def execXorBImm (imm : BitVec 8) (rd : R8) (s : State) : Result :=
  logicB rd (s.reg8 rd ^^^ imm) 2 s

/-- `XOR.B Rs,Rd` (R370). -/
def execXorBReg (rs : R8) (rd : R8) (s : State) : Result :=
  logicB rd (s.reg8 rd ^^^ s.reg8 rs) 2 s

/-- `XOR.W #xx:16,Rd` (R371). -/
def execXorWImm (imm : BitVec 16) (rd : R16) (s : State) : Result :=
  logicW rd (s.reg16 rd ^^^ imm) 4 s

/-- `XOR.W Rs,Rd` (R371). -/
def execXorWReg (rs : R16) (rd : R16) (s : State) : Result :=
  logicW rd (s.reg16 rd ^^^ s.reg16 rs) 2 s

/-- `XOR.L #xx:32,ERd` (R372). -/
def execXorLImm (imm : BitVec 32) (erd : ER) (s : State) : Result :=
  logicL erd (s.reg32 erd ^^^ imm) 6 s

/-- `XOR.L ERs,ERd` (R372). -/
def execXorLReg (ers : ER) (erd : ER) (s : State) : Result :=
  logicL erd (s.reg32 erd ^^^ s.reg32 ers) 4 s

/-- `NOT.B Rd` (R375). -/
def execNotB (rd : R8) (s : State) : Result :=
  logicB rd (~~~(s.reg8 rd)) 2 s

/-- `NOT.W Rd` (R376). -/
def execNotW (rd : R16) (s : State) : Result :=
  logicW rd (~~~(s.reg16 rd)) 2 s

/-- `NOT.L ERd` (R377). -/
def execNotL (erd : ER) (s : State) : Result :=
  logicL erd (~~~(s.reg32 erd)) 2 s

end Sys2Proof.Machine
end

