-- ==== Sys2Proof/Machine/MulDiv.lean ====
section
/-! DEFINITION. Multiplication, division, comparison, negation, extension: MULXU, MULXS, DIVXU, DIVXS,
CMP, NEG, EXTS, EXTU (42_arithmetic_muldiv.md). -/

namespace Sys2Proof.Machine

/-- Unsigned division of 2w bits by w bits: remainder over quotient; nothing for a zero divisor or a
quotient that does not fit (R325, R326). -/
def divideUnsigned {w : Nat} (n : BitVec (w + w)) (d : BitVec w) : Option (BitVec (w + w)) :=
  if d.toNat ≠ 0 ∧ n.toNat / d.toNat < 2 ^ w then
    some (BitVec.ofNat w (n.toNat % d.toNat) ++ BitVec.ofNat w (n.toNat / d.toNat))
  else none

/-- Signed division truncating toward zero, the remainder with the sign of the dividend (R328, R329). -/
def divideSigned {w : Nat} (n : BitVec (w + w)) (d : BitVec w) : Option (BitVec (w + w)) :=
  if d.toInt ≠ 0 ∧ -2 ^ (w - 1) ≤ n.toInt.tdiv d.toInt ∧ n.toInt.tdiv d.toInt < 2 ^ (w - 1) then
    some (BitVec.ofInt w (n.toInt.tmod d.toInt) ++ BitVec.ofInt w (n.toInt.tdiv d.toInt))
  else none

/-- A 16-bit division result put into Rd: the free value where there is none (R325, R328, D11, log 14). -/
def putQuotientB (signed : Bool) (q : Option Word) (rs : R8) (rd : R16) (s : State) : State :=
  match q with
  | some v => s.setReg16 rd v
  | none => (s.setReg16 rd ((s.freeValue (.quotientB signed (s.reg16 rd) (s.reg8 rs))).setWidth 16)).drawn

/-- A 32-bit division result put into ERd (R326, R329, D11, log 14). -/
def putQuotientW (signed : Bool) (q : Option Long) (rs : R16) (erd : ER) (s : State) : State :=
  match q with
  | some v => s.setReg32 erd v
  | none => (s.setReg32 erd (s.freeValue (.quotientW signed (s.reg32 erd) (s.reg16 rs)))).drawn

/-- N and Z of a division, from the operands alone (R325, R328). -/
def State.setDivFlags (s : State) (negative zero : Bool) : State := (s.setFlag .n negative).setFlag .z zero

/-- Comparison: the flags of a subtraction (R335). -/
def compareWith {w : Nat} (a b : BitVec w) (length : Nat) (s : State) : Result :=
  .next ((s.setSubFlags a b false).advance length)

/-- `MULXU.B Rs,Rd` (R320). -/
def execMulxuB (rs : R8) (rd : R16) (s : State) : Result :=
  .next ((s.setReg16 rd
    ((((s.reg16 rd).setWidth 8).setWidth 16 : Word) * (s.reg8 rs).setWidth 16)).advance 2)

/-- `MULXU.W Rs,ERd` (R321). -/
def execMulxuW (rs : R16) (erd : ER) (s : State) : Result :=
  .next ((s.setReg32 erd
    ((((s.reg32 erd).setWidth 16).setWidth 32 : Long) * (s.reg16 rs).setWidth 32)).advance 2)

/-- `MULXS.B Rs,Rd` (R322). -/
def execMulxsB (rs : R8) (rd : R16) (s : State) : Result :=
  let p : Word := ((s.reg16 rd).setWidth 8).signExtend 16 * (s.reg8 rs).signExtend 16
  .next (((s.setReg16 rd p).setNZ p).advance 4)

/-- `MULXS.W Rs,ERd` (R323). -/
def execMulxsW (rs : R16) (erd : ER) (s : State) : Result :=
  let p : Long := ((s.reg32 erd).setWidth 16).signExtend 32 * (s.reg16 rs).signExtend 32
  .next (((s.setReg32 erd p).setNZ p).advance 4)

/-- `DIVXU.B Rs,Rd` (R325). -/
def execDivxuB (rs : R8) (rd : R16) (s : State) : Result :=
  let q := divideUnsigned (s.reg16 rd) (s.reg8 rs)
  .next (((putQuotientB false q rs rd s).setDivFlags (s.reg8 rs).msb (s.reg8 rs == 0#8)).advance 2)

/-- `DIVXU.W Rs,ERd` (R326). -/
def execDivxuW (rs : R16) (erd : ER) (s : State) : Result :=
  let q := divideUnsigned (s.reg32 erd) (s.reg16 rs)
  .next (((putQuotientW false q rs erd s).setDivFlags (s.reg16 rs).msb (s.reg16 rs == 0#16)).advance 2)

/-- `DIVXS.B Rs,Rd` (R328). -/
def execDivxsB (rs : R8) (rd : R16) (s : State) : Result :=
  let q := divideSigned (s.reg16 rd) (s.reg8 rs)
  .next (((putQuotientB true q rs rd s).setDivFlags ((s.reg16 rd).msb != (s.reg8 rs).msb)
    (s.reg8 rs == 0#8)).advance 4)

/-- `DIVXS.W Rs,ERd` (R329). -/
def execDivxsW (rs : R16) (erd : ER) (s : State) : Result :=
  let q := divideSigned (s.reg32 erd) (s.reg16 rs)
  .next (((putQuotientW true q rs erd s).setDivFlags ((s.reg32 erd).msb != (s.reg16 rs).msb)
    (s.reg16 rs == 0#16)).advance 4)

/-- `CMP.B #xx:8,Rd` (R335). -/
def execCmpBImm (imm : BitVec 8) (rd : R8) (s : State) : Result :=
  compareWith (s.reg8 rd) imm 2 s

/-- `CMP.B Rs,Rd` (R335). -/
def execCmpBReg (rs : R8) (rd : R8) (s : State) : Result :=
  compareWith (s.reg8 rd) (s.reg8 rs) 2 s

/-- `CMP.W #xx:16,Rd` (R336). -/
def execCmpWImm (imm : BitVec 16) (rd : R16) (s : State) : Result :=
  compareWith (s.reg16 rd) imm 4 s

/-- `CMP.W Rs,Rd` (R336). -/
def execCmpWReg (rs : R16) (rd : R16) (s : State) : Result :=
  compareWith (s.reg16 rd) (s.reg16 rs) 2 s

/-- `CMP.L #xx:32,ERd` (R337). -/
def execCmpLImm (imm : BitVec 32) (erd : ER) (s : State) : Result :=
  compareWith (s.reg32 erd) imm 6 s

/-- `CMP.L ERs,ERd` (R337). -/
def execCmpLReg (ers : ER) (erd : ER) (s : State) : Result :=
  compareWith (s.reg32 erd) (s.reg32 ers) 2 s

/-- `NEG.B Rd` (R340). -/
def execNegB (rd : R8) (s : State) : Result :=
  let r := difference (0#8) (s.reg8 rd) false
  .next (((s.setReg8 rd r).setSubFlags (0#8) (s.reg8 rd) false).advance 2)

/-- `NEG.W Rd` (R341). -/
def execNegW (rd : R16) (s : State) : Result :=
  let r := difference (0#16) (s.reg16 rd) false
  .next (((s.setReg16 rd r).setSubFlags (0#16) (s.reg16 rd) false).advance 2)

/-- `NEG.L ERd` (R342). -/
def execNegL (erd : ER) (s : State) : Result :=
  let r := difference (0#32) (s.reg32 erd) false
  .next (((s.setReg32 erd r).setSubFlags (0#32) (s.reg32 erd) false).advance 2)

/-- `EXTS.W Rd` (R345). -/
def execExtsW (rd : R16) (s : State) : Result :=
  let r : Word := ((s.reg16 rd).setWidth 8).signExtend 16
  .next (((s.setReg16 rd r).setNZV0 r).advance 2)

/-- `EXTS.L ERd` (R346). -/
def execExtsL (erd : ER) (s : State) : Result :=
  let r : Long := ((s.reg32 erd).setWidth 16).signExtend 32
  .next (((s.setReg32 erd r).setNZV0 r).advance 2)

/-- `EXTU.W Rd` (R347). -/
def execExtuW (rd : R16) (s : State) : Result :=
  let r : Word := ((s.reg16 rd).setWidth 8).setWidth 16
  .next (((s.setReg16 rd r).setNZV0 r).advance 2)

/-- `EXTU.L ERd` (R348). -/
def execExtuL (erd : ER) (s : State) : Result :=
  let r : Long := ((s.reg32 erd).setWidth 16).setWidth 32
  .next (((s.setReg32 erd r).setNZV0 r).advance 2)

end Sys2Proof.Machine
end

