-- ==== Sys2Proof/Machine/Shift.lean ====
section
/-! DEFINITION. Shifts and rotates by one bit: SHAL, SHAR, SHLL, SHLR, ROTL, ROTR, ROTXL, ROTXR
(44_shift.md). -/

namespace Sys2Proof.Machine

/-- What a shift gives: the result, the bit shifted out, and V. -/
structure Shifted (w : Nat) where
  result : BitVec w
  carry : Bool
  overflow : Bool

/-- SHAL: V says that the sign changed (R392). -/
def shal {w : Nat} (d : BitVec w) : Shifted w := ⟨d <<< 1, d.msb, d.msb != d.getLsbD (w - 2)⟩

/-- SHAR: the sign bit is kept (R393). -/
def shar {w : Nat} (d : BitVec w) : Shifted w := ⟨d.sshiftRight 1, d.getLsbD 0, false⟩

/-- SHLL (R395). -/
def shll {w : Nat} (d : BitVec w) : Shifted w := ⟨d <<< 1, d.msb, false⟩

/-- SHLR (R396). -/
def shlr {w : Nat} (d : BitVec w) : Shifted w := ⟨d >>> 1, d.getLsbD 0, false⟩

/-- ROTL (R400). -/
def rotl {w : Nat} (d : BitVec w) : Shifted w := ⟨d.rotateLeft 1, d.msb, false⟩

/-- ROTR (R401). -/
def rotr {w : Nat} (d : BitVec w) : Shifted w := ⟨d.rotateRight 1, d.getLsbD 0, false⟩

/-- ROTXL: C enters bit 0 (R402). -/
def rotxl {w : Nat} (d : BitVec w) (c : Bool) : Shifted w := ⟨d <<< 1 ||| BitVec.ofNat w c.toNat, d.msb, false⟩

/-- ROTXR: C enters the top bit (R403). -/
def rotxr {w : Nat} (d : BitVec w) (c : Bool) : Shifted w :=
  ⟨d >>> 1 ||| BitVec.ofNat w c.toNat <<< (w - 1), d.getLsbD 0, false⟩

/-- N, Z, V and C after a shift; H is kept (R390). -/
def State.setShiftFlags {w : Nat} (s : State) (x : Shifted w) : State :=
  ((s.setNZ x.result).setFlag .v x.overflow).setFlag .c x.carry

/-- A shifted byte register (R390). -/
def shiftB (rd : R8) (x : Shifted 8) (s : State) : Result :=
  .next (((s.setReg8 rd x.result).setShiftFlags x).advance 2)

/-- A shifted word register (R390). -/
def shiftW (rd : R16) (x : Shifted 16) (s : State) : Result :=
  .next (((s.setReg16 rd x.result).setShiftFlags x).advance 2)

/-- A shifted longword register (R390). -/
def shiftL (erd : ER) (x : Shifted 32) (s : State) : Result :=
  .next (((s.setReg32 erd x.result).setShiftFlags x).advance 2)

/-- `SHAL.B Rd` (R392). -/
def execShalB (rd : R8) (s : State) : Result :=
  shiftB rd (shal (s.reg8 rd)) s

/-- `SHAL.W Rd` (R392). -/
def execShalW (rd : R16) (s : State) : Result :=
  shiftW rd (shal (s.reg16 rd)) s

/-- `SHAL.L ERd` (R392). -/
def execShalL (erd : ER) (s : State) : Result :=
  shiftL erd (shal (s.reg32 erd)) s

/-- `SHAR.B Rd` (R393). -/
def execSharB (rd : R8) (s : State) : Result :=
  shiftB rd (shar (s.reg8 rd)) s

/-- `SHAR.W Rd` (R393). -/
def execSharW (rd : R16) (s : State) : Result :=
  shiftW rd (shar (s.reg16 rd)) s

/-- `SHAR.L ERd` (R393). -/
def execSharL (erd : ER) (s : State) : Result :=
  shiftL erd (shar (s.reg32 erd)) s

/-- `SHLL.B Rd` (R395). -/
def execShllB (rd : R8) (s : State) : Result :=
  shiftB rd (shll (s.reg8 rd)) s

/-- `SHLL.W Rd` (R395). -/
def execShllW (rd : R16) (s : State) : Result :=
  shiftW rd (shll (s.reg16 rd)) s

/-- `SHLL.L ERd` (R395). -/
def execShllL (erd : ER) (s : State) : Result :=
  shiftL erd (shll (s.reg32 erd)) s

/-- `SHLR.B Rd` (R396). -/
def execShlrB (rd : R8) (s : State) : Result :=
  shiftB rd (shlr (s.reg8 rd)) s

/-- `SHLR.W Rd` (R396). -/
def execShlrW (rd : R16) (s : State) : Result :=
  shiftW rd (shlr (s.reg16 rd)) s

/-- `SHLR.L ERd` (R396). -/
def execShlrL (erd : ER) (s : State) : Result :=
  shiftL erd (shlr (s.reg32 erd)) s

/-- `ROTL.B Rd` (R400). -/
def execRotlB (rd : R8) (s : State) : Result :=
  shiftB rd (rotl (s.reg8 rd)) s

/-- `ROTL.W Rd` (R400). -/
def execRotlW (rd : R16) (s : State) : Result :=
  shiftW rd (rotl (s.reg16 rd)) s

/-- `ROTL.L ERd` (R400). -/
def execRotlL (erd : ER) (s : State) : Result :=
  shiftL erd (rotl (s.reg32 erd)) s

/-- `ROTR.B Rd` (R401). -/
def execRotrB (rd : R8) (s : State) : Result :=
  shiftB rd (rotr (s.reg8 rd)) s

/-- `ROTR.W Rd` (R401). -/
def execRotrW (rd : R16) (s : State) : Result :=
  shiftW rd (rotr (s.reg16 rd)) s

/-- `ROTR.L ERd` (R401). -/
def execRotrL (erd : ER) (s : State) : Result :=
  shiftL erd (rotr (s.reg32 erd)) s

/-- `ROTXL.B Rd` (R402). -/
def execRotxlB (rd : R8) (s : State) : Result :=
  shiftB rd (rotxl (s.reg8 rd) (s.flag .c)) s

/-- `ROTXL.W Rd` (R402). -/
def execRotxlW (rd : R16) (s : State) : Result :=
  shiftW rd (rotxl (s.reg16 rd) (s.flag .c)) s

/-- `ROTXL.L ERd` (R402). -/
def execRotxlL (erd : ER) (s : State) : Result :=
  shiftL erd (rotxl (s.reg32 erd) (s.flag .c)) s

/-- `ROTXR.B Rd` (R403). -/
def execRotxrB (rd : R8) (s : State) : Result :=
  shiftB rd (rotxr (s.reg8 rd) (s.flag .c)) s

/-- `ROTXR.W Rd` (R403). -/
def execRotxrW (rd : R16) (s : State) : Result :=
  shiftW rd (rotxr (s.reg16 rd) (s.flag .c)) s

/-- `ROTXR.L ERd` (R403). -/
def execRotxrL (erd : ER) (s : State) : Result :=
  shiftL erd (rotxr (s.reg32 erd) (s.flag .c)) s

end Sys2Proof.Machine
end

