-- ==== Sys2Proof/Machine/System.lean ====
section
/-! DEFINITION. System control: TRAPA, RTE, SLEEP, NOP, LDC, STC, ANDC, ORC, XORC (47_system_control.md). -/

namespace Sys2Proof.Machine

/-- CCR written as a whole, with interrupt detection skipped once (R506, R513). -/
def writeCcr (v : Byte) (length : Nat) (s : State) : Result :=
  .next (((s.setCcr v).inhibit).advance length)

/-- LDC from memory: a word is read and the byte at the even address goes to CCR (R515). -/
def loadCcr (m : MemOperand) (length : Nat) (s : State) : Result :=
  writeCcr ((s.loadW (m.ea 2 s)).extractLsb' 8 8) length (m.step 2 (s.seeW (m.ea 2 s)))

/-- STC to memory: a word is written, CCR at the even address and a free value at the odd one
(R525, D21, log 13). -/
def storeCcr (m : MemOperand) (length : Nat) (s : State) : Result :=
  .next ((((m.step 2 s).storeBytes (m.ea 2 s) (.value s.ccr)
    (.free ⟨.stcOddByte s.ccr, s.draws⟩)).drawn).advance length)

/-- `TRAPA #x:2` (R501). -/
def execTrapa (x : BitVec 2) (s : State) : Result :=
  .next (s.exceptionEntry (8#8 + x.setWidth 8) (s.next 2))

/-- `RTE` (R503). -/
def execRte (s : State) : Result :=
  .next s.returnFromException

/-- `SLEEP` (R504). -/
def execSleep (s : State) : Result :=
  .next { s.advance 2 with pstate := if s.ssby then .softwareStandby else .sleep }

/-- `NOP` (R505). -/
def execNop (s : State) : Result :=
  .next (s.advance 2)

/-- `LDC #xx:8,CCR` (R506). -/
def execLdcImm (imm : BitVec 8) (s : State) : Result :=
  writeCcr imm 2 s

/-- `LDC Rs,CCR` (R507). -/
def execLdcReg (rs : R8) (s : State) : Result :=
  writeCcr (s.reg8 rs) 2 s

/-- `STC CCR,Rd` (R508). -/
def execStcReg (rd : R8) (s : State) : Result :=
  .next ((s.setReg8 rd s.ccr).advance 2)

/-- `ANDC #xx:8,CCR` (R510). -/
def execAndc (imm : BitVec 8) (s : State) : Result :=
  writeCcr (s.ccr &&& imm) 2 s

/-- `ORC #xx:8,CCR` (R511). -/
def execOrc (imm : BitVec 8) (s : State) : Result :=
  writeCcr (s.ccr ||| imm) 2 s

/-- `XORC #xx:8,CCR` (R512). -/
def execXorc (imm : BitVec 8) (s : State) : Result :=
  writeCcr (s.ccr ^^^ imm) 2 s

/-- `LDC.W @ERs,CCR` (R516). -/
def execLdcLoadInd (ers : ER) (s : State) : Result :=
  loadCcr (.ind ers) 4 s

/-- `LDC.W @(d:16,ERs),CCR` (R517). -/
def execLdcLoadDisp16 (d : BitVec 16) (ers : ER) (s : State) : Result :=
  loadCcr (.disp16 d ers) 6 s

/-- `LDC.W @(d:24,ERs),CCR` (R518). -/
def execLdcLoadDisp24 (d : BitVec 24) (ers : ER) (s : State) : Result :=
  loadCcr (.disp24 d ers) 10 s

/-- `LDC.W @ERs+,CCR` (R519). -/
def execLdcLoadInc (ers : ER) (s : State) : Result :=
  loadCcr (.inc ers) 4 s

/-- `LDC.W @aa:16,CCR` (R520). -/
def execLdcLoadAbs16 (aa : BitVec 16) (s : State) : Result :=
  loadCcr (.abs16 aa) 6 s

/-- `LDC.W @aa:24,CCR` (R521). -/
def execLdcLoadAbs24 (aa : BitVec 24) (s : State) : Result :=
  loadCcr (.abs24 aa) 8 s

/-- `STC.W CCR,@ERd` (R526). -/
def execStcStoreInd (erd : ER) (s : State) : Result :=
  storeCcr (.ind erd) 4 s

/-- `STC.W CCR,@(d:16,ERd)` (R527). -/
def execStcStoreDisp16 (d : BitVec 16) (erd : ER) (s : State) : Result :=
  storeCcr (.disp16 d erd) 6 s

/-- `STC.W CCR,@(d:24,ERd)` (R528). -/
def execStcStoreDisp24 (d : BitVec 24) (erd : ER) (s : State) : Result :=
  storeCcr (.disp24 d erd) 10 s

/-- `STC.W CCR,@-ERd` (R529). -/
def execStcStoreDec (erd : ER) (s : State) : Result :=
  storeCcr (.dec erd) 4 s

/-- `STC.W CCR,@aa:16` (R530). -/
def execStcStoreAbs16 (aa : BitVec 16) (s : State) : Result :=
  storeCcr (.abs16 aa) 6 s

/-- `STC.W CCR,@aa:24` (R531). -/
def execStcStoreAbs24 (aa : BitVec 24) (s : State) : Result :=
  storeCcr (.abs24 aa) 8 s

end Sys2Proof.Machine
end

