-- ==== Sys2Proof/Machine/Dispatch.lean ====
section
/-! DEFINITION. Which meaning each instruction has. -/

namespace Sys2Proof.Machine

/-- The effect of an instruction at a state. -/
def exec (i : Instr) (s : State) : Host.Outcome State Fault Refusal :=
  match i with
  -- DataTransfer
  | .movBReg rs rd => Sys2Proof.Machine.execMovBReg rs rd s
  | .movWReg rs rd => Sys2Proof.Machine.execMovWReg rs rd s
  | .movLReg ers erd => Sys2Proof.Machine.execMovLReg ers erd s
  | .movBImm imm rd => Sys2Proof.Machine.execMovBImm imm rd s
  | .movWImm imm rd => Sys2Proof.Machine.execMovWImm imm rd s
  | .movLImm imm erd => Sys2Proof.Machine.execMovLImm imm erd s
  | .movBLoadInd ers rd => Sys2Proof.Machine.execMovBLoadInd ers rd s
  | .movBLoadDisp16 d ers rd => Sys2Proof.Machine.execMovBLoadDisp16 d ers rd s
  | .movBLoadDisp24 d ers rd => Sys2Proof.Machine.execMovBLoadDisp24 d ers rd s
  | .movBLoadInc ers rd => Sys2Proof.Machine.execMovBLoadInc ers rd s
  | .movBLoadAbs8 aa rd => Sys2Proof.Machine.execMovBLoadAbs8 aa rd s
  | .movBLoadAbs16 aa rd => Sys2Proof.Machine.execMovBLoadAbs16 aa rd s
  | .movBLoadAbs24 aa rd => Sys2Proof.Machine.execMovBLoadAbs24 aa rd s
  | .movWLoadInd ers rd => Sys2Proof.Machine.execMovWLoadInd ers rd s
  | .movWLoadDisp16 d ers rd => Sys2Proof.Machine.execMovWLoadDisp16 d ers rd s
  | .movWLoadDisp24 d ers rd => Sys2Proof.Machine.execMovWLoadDisp24 d ers rd s
  | .movWLoadInc ers rd => Sys2Proof.Machine.execMovWLoadInc ers rd s
  | .movWLoadAbs16 aa rd => Sys2Proof.Machine.execMovWLoadAbs16 aa rd s
  | .movWLoadAbs24 aa rd => Sys2Proof.Machine.execMovWLoadAbs24 aa rd s
  | .movLLoadInd ers erd => Sys2Proof.Machine.execMovLLoadInd ers erd s
  | .movLLoadDisp16 d ers erd => Sys2Proof.Machine.execMovLLoadDisp16 d ers erd s
  | .movLLoadDisp24 d ers erd => Sys2Proof.Machine.execMovLLoadDisp24 d ers erd s
  | .movLLoadInc ers erd => Sys2Proof.Machine.execMovLLoadInc ers erd s
  | .movLLoadAbs16 aa erd => Sys2Proof.Machine.execMovLLoadAbs16 aa erd s
  | .movLLoadAbs24 aa erd => Sys2Proof.Machine.execMovLLoadAbs24 aa erd s
  | .movBStoreInd rs erd => Sys2Proof.Machine.execMovBStoreInd rs erd s
  | .movBStoreDisp16 rs d erd => Sys2Proof.Machine.execMovBStoreDisp16 rs d erd s
  | .movBStoreDisp24 rs d erd => Sys2Proof.Machine.execMovBStoreDisp24 rs d erd s
  | .movBStoreDec rs erd => Sys2Proof.Machine.execMovBStoreDec rs erd s
  | .movBStoreAbs8 rs aa => Sys2Proof.Machine.execMovBStoreAbs8 rs aa s
  | .movBStoreAbs16 rs aa => Sys2Proof.Machine.execMovBStoreAbs16 rs aa s
  | .movBStoreAbs24 rs aa => Sys2Proof.Machine.execMovBStoreAbs24 rs aa s
  | .movWStoreInd rs erd => Sys2Proof.Machine.execMovWStoreInd rs erd s
  | .movWStoreDisp16 rs d erd => Sys2Proof.Machine.execMovWStoreDisp16 rs d erd s
  | .movWStoreDisp24 rs d erd => Sys2Proof.Machine.execMovWStoreDisp24 rs d erd s
  | .movWStoreDec rs erd => Sys2Proof.Machine.execMovWStoreDec rs erd s
  | .movWStoreAbs16 rs aa => Sys2Proof.Machine.execMovWStoreAbs16 rs aa s
  | .movWStoreAbs24 rs aa => Sys2Proof.Machine.execMovWStoreAbs24 rs aa s
  | .movLStoreInd ers erd => Sys2Proof.Machine.execMovLStoreInd ers erd s
  | .movLStoreDisp16 ers d erd => Sys2Proof.Machine.execMovLStoreDisp16 ers d erd s
  | .movLStoreDisp24 ers d erd => Sys2Proof.Machine.execMovLStoreDisp24 ers d erd s
  | .movLStoreDec ers erd => Sys2Proof.Machine.execMovLStoreDec ers erd s
  | .movLStoreAbs16 ers aa => Sys2Proof.Machine.execMovLStoreAbs16 ers aa s
  | .movLStoreAbs24 ers aa => Sys2Proof.Machine.execMovLStoreAbs24 ers aa s
  | .popW rn => Sys2Proof.Machine.execPopW rn s
  | .popL ern => Sys2Proof.Machine.execPopL ern s
  | .pushW rn => Sys2Proof.Machine.execPushW rn s
  | .pushL ern => Sys2Proof.Machine.execPushL ern s
  | .movfpe aa rd => Sys2Proof.Machine.execMovfpe aa rd s
  | .movtpe rs aa => Sys2Proof.Machine.execMovtpe rs aa s
  -- AddSub
  | .addBImm imm rd => Sys2Proof.Machine.execAddBImm imm rd s
  | .addBReg rs rd => Sys2Proof.Machine.execAddBReg rs rd s
  | .addWImm imm rd => Sys2Proof.Machine.execAddWImm imm rd s
  | .addWReg rs rd => Sys2Proof.Machine.execAddWReg rs rd s
  | .addLImm imm erd => Sys2Proof.Machine.execAddLImm imm erd s
  | .addLReg ers erd => Sys2Proof.Machine.execAddLReg ers erd s
  | .adds1 erd => Sys2Proof.Machine.execAdds1 erd s
  | .adds2 erd => Sys2Proof.Machine.execAdds2 erd s
  | .adds4 erd => Sys2Proof.Machine.execAdds4 erd s
  | .addxImm imm rd => Sys2Proof.Machine.execAddxImm imm rd s
  | .addxReg rs rd => Sys2Proof.Machine.execAddxReg rs rd s
  | .subBReg rs rd => Sys2Proof.Machine.execSubBReg rs rd s
  | .subWImm imm rd => Sys2Proof.Machine.execSubWImm imm rd s
  | .subWReg rs rd => Sys2Proof.Machine.execSubWReg rs rd s
  | .subLImm imm erd => Sys2Proof.Machine.execSubLImm imm erd s
  | .subLReg ers erd => Sys2Proof.Machine.execSubLReg ers erd s
  | .subs1 erd => Sys2Proof.Machine.execSubs1 erd s
  | .subs2 erd => Sys2Proof.Machine.execSubs2 erd s
  | .subs4 erd => Sys2Proof.Machine.execSubs4 erd s
  | .subxImm imm rd => Sys2Proof.Machine.execSubxImm imm rd s
  | .subxReg rs rd => Sys2Proof.Machine.execSubxReg rs rd s
  | .incB rd => Sys2Proof.Machine.execIncB rd s
  | .incW1 rd => Sys2Proof.Machine.execIncW1 rd s
  | .incW2 rd => Sys2Proof.Machine.execIncW2 rd s
  | .incL1 erd => Sys2Proof.Machine.execIncL1 erd s
  | .incL2 erd => Sys2Proof.Machine.execIncL2 erd s
  | .decB rd => Sys2Proof.Machine.execDecB rd s
  | .decW1 rd => Sys2Proof.Machine.execDecW1 rd s
  | .decW2 rd => Sys2Proof.Machine.execDecW2 rd s
  | .decL1 erd => Sys2Proof.Machine.execDecL1 erd s
  | .decL2 erd => Sys2Proof.Machine.execDecL2 erd s
  | .daa rd => Sys2Proof.Machine.execDaa rd s
  | .das rd => Sys2Proof.Machine.execDas rd s
  -- MulDiv
  | .mulxuB rs rd => Sys2Proof.Machine.execMulxuB rs rd s
  | .mulxuW rs erd => Sys2Proof.Machine.execMulxuW rs erd s
  | .mulxsB rs rd => Sys2Proof.Machine.execMulxsB rs rd s
  | .mulxsW rs erd => Sys2Proof.Machine.execMulxsW rs erd s
  | .divxuB rs rd => Sys2Proof.Machine.execDivxuB rs rd s
  | .divxuW rs erd => Sys2Proof.Machine.execDivxuW rs erd s
  | .divxsB rs rd => Sys2Proof.Machine.execDivxsB rs rd s
  | .divxsW rs erd => Sys2Proof.Machine.execDivxsW rs erd s
  | .cmpBImm imm rd => Sys2Proof.Machine.execCmpBImm imm rd s
  | .cmpBReg rs rd => Sys2Proof.Machine.execCmpBReg rs rd s
  | .cmpWImm imm rd => Sys2Proof.Machine.execCmpWImm imm rd s
  | .cmpWReg rs rd => Sys2Proof.Machine.execCmpWReg rs rd s
  | .cmpLImm imm erd => Sys2Proof.Machine.execCmpLImm imm erd s
  | .cmpLReg ers erd => Sys2Proof.Machine.execCmpLReg ers erd s
  | .negB rd => Sys2Proof.Machine.execNegB rd s
  | .negW rd => Sys2Proof.Machine.execNegW rd s
  | .negL erd => Sys2Proof.Machine.execNegL erd s
  | .extsW rd => Sys2Proof.Machine.execExtsW rd s
  | .extsL erd => Sys2Proof.Machine.execExtsL erd s
  | .extuW rd => Sys2Proof.Machine.execExtuW rd s
  | .extuL erd => Sys2Proof.Machine.execExtuL erd s
  -- Logic
  | .andBImm imm rd => Sys2Proof.Machine.execAndBImm imm rd s
  | .andBReg rs rd => Sys2Proof.Machine.execAndBReg rs rd s
  | .andWImm imm rd => Sys2Proof.Machine.execAndWImm imm rd s
  | .andWReg rs rd => Sys2Proof.Machine.execAndWReg rs rd s
  | .andLImm imm erd => Sys2Proof.Machine.execAndLImm imm erd s
  | .andLReg ers erd => Sys2Proof.Machine.execAndLReg ers erd s
  | .orBImm imm rd => Sys2Proof.Machine.execOrBImm imm rd s
  | .orBReg rs rd => Sys2Proof.Machine.execOrBReg rs rd s
  | .orWImm imm rd => Sys2Proof.Machine.execOrWImm imm rd s
  | .orWReg rs rd => Sys2Proof.Machine.execOrWReg rs rd s
  | .orLImm imm erd => Sys2Proof.Machine.execOrLImm imm erd s
  | .orLReg ers erd => Sys2Proof.Machine.execOrLReg ers erd s
  | .xorBImm imm rd => Sys2Proof.Machine.execXorBImm imm rd s
  | .xorBReg rs rd => Sys2Proof.Machine.execXorBReg rs rd s
  | .xorWImm imm rd => Sys2Proof.Machine.execXorWImm imm rd s
  | .xorWReg rs rd => Sys2Proof.Machine.execXorWReg rs rd s
  | .xorLImm imm erd => Sys2Proof.Machine.execXorLImm imm erd s
  | .xorLReg ers erd => Sys2Proof.Machine.execXorLReg ers erd s
  | .notB rd => Sys2Proof.Machine.execNotB rd s
  | .notW rd => Sys2Proof.Machine.execNotW rd s
  | .notL erd => Sys2Proof.Machine.execNotL erd s
  -- Shift
  | .shalB rd => Sys2Proof.Machine.execShalB rd s
  | .shalW rd => Sys2Proof.Machine.execShalW rd s
  | .shalL erd => Sys2Proof.Machine.execShalL erd s
  | .sharB rd => Sys2Proof.Machine.execSharB rd s
  | .sharW rd => Sys2Proof.Machine.execSharW rd s
  | .sharL erd => Sys2Proof.Machine.execSharL erd s
  | .shllB rd => Sys2Proof.Machine.execShllB rd s
  | .shllW rd => Sys2Proof.Machine.execShllW rd s
  | .shllL erd => Sys2Proof.Machine.execShllL erd s
  | .shlrB rd => Sys2Proof.Machine.execShlrB rd s
  | .shlrW rd => Sys2Proof.Machine.execShlrW rd s
  | .shlrL erd => Sys2Proof.Machine.execShlrL erd s
  | .rotlB rd => Sys2Proof.Machine.execRotlB rd s
  | .rotlW rd => Sys2Proof.Machine.execRotlW rd s
  | .rotlL erd => Sys2Proof.Machine.execRotlL erd s
  | .rotrB rd => Sys2Proof.Machine.execRotrB rd s
  | .rotrW rd => Sys2Proof.Machine.execRotrW rd s
  | .rotrL erd => Sys2Proof.Machine.execRotrL erd s
  | .rotxlB rd => Sys2Proof.Machine.execRotxlB rd s
  | .rotxlW rd => Sys2Proof.Machine.execRotxlW rd s
  | .rotxlL erd => Sys2Proof.Machine.execRotxlL erd s
  | .rotxrB rd => Sys2Proof.Machine.execRotxrB rd s
  | .rotxrW rd => Sys2Proof.Machine.execRotxrW rd s
  | .rotxrL erd => Sys2Proof.Machine.execRotxrL erd s
  -- Bits
  | .bsetImmReg n rd => Sys2Proof.Machine.execBsetImmReg n rd s
  | .bsetImmInd n erd => Sys2Proof.Machine.execBsetImmInd n erd s
  | .bsetImmAbs n aa => Sys2Proof.Machine.execBsetImmAbs n aa s
  | .bsetRnReg rn rd => Sys2Proof.Machine.execBsetRnReg rn rd s
  | .bsetRnInd rn erd => Sys2Proof.Machine.execBsetRnInd rn erd s
  | .bsetRnAbs rn aa => Sys2Proof.Machine.execBsetRnAbs rn aa s
  | .bclrImmReg n rd => Sys2Proof.Machine.execBclrImmReg n rd s
  | .bclrImmInd n erd => Sys2Proof.Machine.execBclrImmInd n erd s
  | .bclrImmAbs n aa => Sys2Proof.Machine.execBclrImmAbs n aa s
  | .bclrRnReg rn rd => Sys2Proof.Machine.execBclrRnReg rn rd s
  | .bclrRnInd rn erd => Sys2Proof.Machine.execBclrRnInd rn erd s
  | .bclrRnAbs rn aa => Sys2Proof.Machine.execBclrRnAbs rn aa s
  | .bnotImmReg n rd => Sys2Proof.Machine.execBnotImmReg n rd s
  | .bnotImmInd n erd => Sys2Proof.Machine.execBnotImmInd n erd s
  | .bnotImmAbs n aa => Sys2Proof.Machine.execBnotImmAbs n aa s
  | .bnotRnReg rn rd => Sys2Proof.Machine.execBnotRnReg rn rd s
  | .bnotRnInd rn erd => Sys2Proof.Machine.execBnotRnInd rn erd s
  | .bnotRnAbs rn aa => Sys2Proof.Machine.execBnotRnAbs rn aa s
  | .btstImmReg n rd => Sys2Proof.Machine.execBtstImmReg n rd s
  | .btstImmInd n erd => Sys2Proof.Machine.execBtstImmInd n erd s
  | .btstImmAbs n aa => Sys2Proof.Machine.execBtstImmAbs n aa s
  | .btstRnReg rn rd => Sys2Proof.Machine.execBtstRnReg rn rd s
  | .btstRnInd rn erd => Sys2Proof.Machine.execBtstRnInd rn erd s
  | .btstRnAbs rn aa => Sys2Proof.Machine.execBtstRnAbs rn aa s
  | .bandReg n rd => Sys2Proof.Machine.execBandReg n rd s
  | .bandInd n erd => Sys2Proof.Machine.execBandInd n erd s
  | .bandAbs n aa => Sys2Proof.Machine.execBandAbs n aa s
  | .biandReg n rd => Sys2Proof.Machine.execBiandReg n rd s
  | .biandInd n erd => Sys2Proof.Machine.execBiandInd n erd s
  | .biandAbs n aa => Sys2Proof.Machine.execBiandAbs n aa s
  | .borReg n rd => Sys2Proof.Machine.execBorReg n rd s
  | .borInd n erd => Sys2Proof.Machine.execBorInd n erd s
  | .borAbs n aa => Sys2Proof.Machine.execBorAbs n aa s
  | .biorReg n rd => Sys2Proof.Machine.execBiorReg n rd s
  | .biorInd n erd => Sys2Proof.Machine.execBiorInd n erd s
  | .biorAbs n aa => Sys2Proof.Machine.execBiorAbs n aa s
  | .bxorReg n rd => Sys2Proof.Machine.execBxorReg n rd s
  | .bxorInd n erd => Sys2Proof.Machine.execBxorInd n erd s
  | .bxorAbs n aa => Sys2Proof.Machine.execBxorAbs n aa s
  | .bixorReg n rd => Sys2Proof.Machine.execBixorReg n rd s
  | .bixorInd n erd => Sys2Proof.Machine.execBixorInd n erd s
  | .bixorAbs n aa => Sys2Proof.Machine.execBixorAbs n aa s
  | .bldReg n rd => Sys2Proof.Machine.execBldReg n rd s
  | .bldInd n erd => Sys2Proof.Machine.execBldInd n erd s
  | .bldAbs n aa => Sys2Proof.Machine.execBldAbs n aa s
  | .bildReg n rd => Sys2Proof.Machine.execBildReg n rd s
  | .bildInd n erd => Sys2Proof.Machine.execBildInd n erd s
  | .bildAbs n aa => Sys2Proof.Machine.execBildAbs n aa s
  | .bstReg n rd => Sys2Proof.Machine.execBstReg n rd s
  | .bstInd n erd => Sys2Proof.Machine.execBstInd n erd s
  | .bstAbs n aa => Sys2Proof.Machine.execBstAbs n aa s
  | .bistReg n rd => Sys2Proof.Machine.execBistReg n rd s
  | .bistInd n erd => Sys2Proof.Machine.execBistInd n erd s
  | .bistAbs n aa => Sys2Proof.Machine.execBistAbs n aa s
  -- Branch
  | .braD8 d => Sys2Proof.Machine.execBraD8 d s
  | .braD16 d => Sys2Proof.Machine.execBraD16 d s
  | .brnD8 d => Sys2Proof.Machine.execBrnD8 d s
  | .brnD16 d => Sys2Proof.Machine.execBrnD16 d s
  | .bhiD8 d => Sys2Proof.Machine.execBhiD8 d s
  | .bhiD16 d => Sys2Proof.Machine.execBhiD16 d s
  | .blsD8 d => Sys2Proof.Machine.execBlsD8 d s
  | .blsD16 d => Sys2Proof.Machine.execBlsD16 d s
  | .bccD8 d => Sys2Proof.Machine.execBccD8 d s
  | .bccD16 d => Sys2Proof.Machine.execBccD16 d s
  | .bcsD8 d => Sys2Proof.Machine.execBcsD8 d s
  | .bcsD16 d => Sys2Proof.Machine.execBcsD16 d s
  | .bneD8 d => Sys2Proof.Machine.execBneD8 d s
  | .bneD16 d => Sys2Proof.Machine.execBneD16 d s
  | .beqD8 d => Sys2Proof.Machine.execBeqD8 d s
  | .beqD16 d => Sys2Proof.Machine.execBeqD16 d s
  | .bvcD8 d => Sys2Proof.Machine.execBvcD8 d s
  | .bvcD16 d => Sys2Proof.Machine.execBvcD16 d s
  | .bvsD8 d => Sys2Proof.Machine.execBvsD8 d s
  | .bvsD16 d => Sys2Proof.Machine.execBvsD16 d s
  | .bplD8 d => Sys2Proof.Machine.execBplD8 d s
  | .bplD16 d => Sys2Proof.Machine.execBplD16 d s
  | .bmiD8 d => Sys2Proof.Machine.execBmiD8 d s
  | .bmiD16 d => Sys2Proof.Machine.execBmiD16 d s
  | .bgeD8 d => Sys2Proof.Machine.execBgeD8 d s
  | .bgeD16 d => Sys2Proof.Machine.execBgeD16 d s
  | .bltD8 d => Sys2Proof.Machine.execBltD8 d s
  | .bltD16 d => Sys2Proof.Machine.execBltD16 d s
  | .bgtD8 d => Sys2Proof.Machine.execBgtD8 d s
  | .bgtD16 d => Sys2Proof.Machine.execBgtD16 d s
  | .bleD8 d => Sys2Proof.Machine.execBleD8 d s
  | .bleD16 d => Sys2Proof.Machine.execBleD16 d s
  | .bsrD8 d => Sys2Proof.Machine.execBsrD8 d s
  | .bsrD16 d => Sys2Proof.Machine.execBsrD16 d s
  | .jmpInd ern => Sys2Proof.Machine.execJmpInd ern s
  | .jmpAbs aa => Sys2Proof.Machine.execJmpAbs aa s
  | .jmpMem aa => Sys2Proof.Machine.execJmpMem aa s
  | .jsrInd ern => Sys2Proof.Machine.execJsrInd ern s
  | .jsrAbs aa => Sys2Proof.Machine.execJsrAbs aa s
  | .jsrMem aa => Sys2Proof.Machine.execJsrMem aa s
  | .rts => Sys2Proof.Machine.execRts s
  -- System
  | .trapa x => Sys2Proof.Machine.execTrapa x s
  | .rte => Sys2Proof.Machine.execRte s
  | .sleep => Sys2Proof.Machine.execSleep s
  | .nop => Sys2Proof.Machine.execNop s
  | .ldcImm imm => Sys2Proof.Machine.execLdcImm imm s
  | .ldcReg rs => Sys2Proof.Machine.execLdcReg rs s
  | .stcReg rd => Sys2Proof.Machine.execStcReg rd s
  | .andc imm => Sys2Proof.Machine.execAndc imm s
  | .orc imm => Sys2Proof.Machine.execOrc imm s
  | .xorc imm => Sys2Proof.Machine.execXorc imm s
  | .ldcLoadInd ers => Sys2Proof.Machine.execLdcLoadInd ers s
  | .ldcLoadDisp16 d ers => Sys2Proof.Machine.execLdcLoadDisp16 d ers s
  | .ldcLoadDisp24 d ers => Sys2Proof.Machine.execLdcLoadDisp24 d ers s
  | .ldcLoadInc ers => Sys2Proof.Machine.execLdcLoadInc ers s
  | .ldcLoadAbs16 aa => Sys2Proof.Machine.execLdcLoadAbs16 aa s
  | .ldcLoadAbs24 aa => Sys2Proof.Machine.execLdcLoadAbs24 aa s
  | .stcStoreInd erd => Sys2Proof.Machine.execStcStoreInd erd s
  | .stcStoreDisp16 d erd => Sys2Proof.Machine.execStcStoreDisp16 d erd s
  | .stcStoreDisp24 d erd => Sys2Proof.Machine.execStcStoreDisp24 d erd s
  | .stcStoreDec erd => Sys2Proof.Machine.execStcStoreDec erd s
  | .stcStoreAbs16 aa => Sys2Proof.Machine.execStcStoreAbs16 aa s
  | .stcStoreAbs24 aa => Sys2Proof.Machine.execStcStoreAbs24 aa s
  -- Block
  | .eepmovB => Sys2Proof.Machine.execEepmovB s
  | .eepmovW => Sys2Proof.Machine.execEepmovW s

end Sys2Proof.Machine
end

