-- ==== Sys2Proof/Machine/Platform.lean ====
section
/-! DEFINITION. What the host can do to the CPU: interrupts, reset, hardware standby, the bus, SSBY
(60_exceptions.md R600 to R650), and reset exception handling. -/

namespace Sys2Proof.Machine

/-- `is_nmi` (R626). -/
def Request.nmi (r : Request) : Bool :=
  match r.source with
  | .nmi => true
  | .external _ | .internal _ => false

/-- The request comes from a pin, NMI or another, so that it can end software standby (R601, R646). -/
def Request.external (r : Request) : Bool :=
  match r.source with
  | .nmi | .external _ => true
  | .internal _ => false

/-- `Accepts(req, CCR)` (R621). -/
def State.accepts (s : State) (r : Request) : Bool :=
  r.nmi || !s.flag .i || (s.par.uiIsMask && !s.flag .ui && r.passesUi)

/-- The request is taken at this sampling point (R620, R622, R645, R646). -/
def State.takes (s : State) (r : Request) : Bool :=
  match s.pstate with
  | .programExecution => !s.irqInhibit && s.accepts r
  | .sleep => s.accepts r
  | .softwareStandby => r.external && s.accepts r
  | _ => false

/-- The reset state: everything in progress is abandoned and I is set (R605, R606). -/
def State.enterReset (s : State) : State :=
  { s.setFlag .i true with pstate := .reset, prefetch := none }

/-- Free values in all registers. -/
def State.openRegs (s : State) (site : ER → OpenSite) : Regs where
  er0 := s.freeValue (site .er0)
  er1 := s.freeValue (site .er1)
  er2 := s.freeValue (site .er2)
  er3 := s.freeValue (site .er3)
  er4 := s.freeValue (site .er4)
  er5 := s.freeValue (site .er5)
  er6 := s.freeValue (site .er6)
  er7 := s.freeValue (site .er7)

/-- Hardware standby: memory is kept, no CPU register is (R647, log 26). -/
def State.enterHardwareStandby (s : State) : State :=
  { s with
    regs := s.openRegs .standbyRegister
    ccr := (s.freeValue .standbyCcr).setWidth 8
    pc := s.pcForm ((s.freeValue .standbyPc).setWidth 24)
    pstate := .hardwareStandby
    prefetch := none
    draws := s.draws + 1 }

/-- The registers and CCR a reset leaves: what they were under WARM_RESET, free values otherwise, with I
set in both cases (R605, R702, D17, log 25). -/
def State.resetRegisters (s : State) : State :=
  if s.par.warmReset then s.setFlag .i true
  else
    ({ s with
      regs := s.openRegs .resetRegister
      ccr := (s.freeValue .resetCcr).setWidth 8
      draws := s.draws + 1 }).setFlag .i true

/-- Reset exception handling from RES High to the first instruction: nothing is pushed, PC comes from
vector 0, the word there is read, and interrupt detection is skipped once (R605, R622). -/
def State.finishReset (s : State) : State :=
  (((s.resetRegisters).enterVector 0#8).inhibit).fetchDue

/-- The read of the prefetch address, PC + 2, at the entry of an interrupt (R610, note *6); from sleep and
software standby there is none. -/
def State.entryRead (s : State) : State :=
  match s.pstate with
  | .programExecution => s.seeW (s.pc + 2#24)
  | _ => s

/-- An interrupt is taken: `ExceptionEntry(VEC(source), pc)` and the read of the first word of the handler
(R610, R620, R645). -/
def State.enterInterrupt (s : State) (source : Source) : State :=
  (s.entryRead.exceptionEntry (s.vectorOf source) s.pc).fetchDue

/-- The states the bus can be released from (R648). -/
def PState.busHolder? : PState → Option BusHolder
  | .programExecution => some .programExecution
  | .exceptionHandling => some .exceptionHandling
  | .sleep => some .sleep
  | _ => none

/-- The state the bus was released from (R648). -/
def BusHolder.state : BusHolder → PState
  | .programExecution => .programExecution
  | .exceptionHandling => .exceptionHandling
  | .sleep => .sleep

/-- A write by the other bus master, which reaches ordinary memory only (R114, R648, log 27). -/
def State.masterWrites (s : State) (a : Addr) (v : Byte) : State :=
  match s.kindAt (s.red a) with
  | none => { s with mem := s.mem.set (s.red a).toNat v }
  | some _ => s

/-- The state after a host action, or nothing where the action has no effect in this state and the CPU
goes on with what it was doing (R641 to R648, R650). -/
def State.respond (s : State) : HostEvent → Option State
  | .idle => none
  | .nmiDuringBlock _ => none
  | .request r => if s.takes r then some (s.enterInterrupt r.source) else none
  | .resLow => if s.pstate = .hardwareStandby then none else some s.enterReset
  | .resHigh => if s.pstate = .reset then some { s with pstate := .exceptionHandling } else none
  | .stbyLow => some s.enterHardwareStandby
  | .stbyHigh => if s.pstate = .hardwareStandby then some s.enterReset else none
  | .busRequest =>
    match s.pstate.busHolder? with
    | some h => some { s with pstate := .busReleased h }
    | none => none
  | .busEnd =>
    match s.pstate with
    | .busReleased h => some { s with pstate := h.state }
    | _ => none
  | .masterWrite a v =>
    match s.pstate with
    | .busReleased _ => some (s.masterWrites a v)
    | _ => none
  | .setSsby b => some { s with ssby := b }

/-- The end of a step: the host's entry for it is used up (log 22). -/
def State.tick (s : State) : State := { s with host := s.host.tail, draws := s.draws + 1 }

end Sys2Proof.Machine
end

