-- ==== Sys2Proof/Machine/Fetch.lean ====
section
/-! DEFINITION. Fetching, decoding and running one instruction (R50, R82, R112, R145). -/

namespace Sys2Proof.Machine

noncomputable section

/-- `Fetch16` (R17, R89): an instruction word. -/
def State.fetchWord (s : State) (a : Addr) : Word := s.loadW a

/-- The first word of the instruction at PC: the word read ahead, or the one read now (R112). -/
def State.firstWord (s : State) : Word :=
  match s.prefetch with
  | some w => w
  | none => s.fetchWord s.pc

/-- The state after the fetch of the first word, where it was not read ahead. -/
def State.opened (s : State) : State :=
  match s.prefetch with
  | some _ => s
  | none => s.seeW s.pc

/-- The bytes of a word, the upper first (R82). -/
def wordBytes (w : Word) : List Byte := [w.extractLsb' 8 8, w.extractLsb' 0 8]

/-- The bytes of `n` words from an address on, read one after the other. -/
def State.wordsFrom (s : State) (a : Addr) : Nat → List Byte
  | 0 => []
  | n + 1 => wordBytes (s.fetchWord a) ++ (s.seeW a).wordsFrom (a + 2#24) n

/-- What reading `n` words from an address on leaves behind. -/
def State.seeWords (s : State) (a : Addr) : Nat → State
  | 0 => s
  | n + 1 => (s.seeW a).seeWords (a + 2#24) n

/-- The ten bytes the decoder is given: as many as the longest instruction has (R121). Only the words of the
instruction that it finds in them are read on the bus (`State.fetched`). -/
def State.fetchBytes (s : State) : List Byte :=
  wordBytes s.firstWord ++ s.opened.wordsFrom (s.pc + 2#24) 4

/-- The state after the words of an instruction have been read: `R:W 2nd` to `R:W 5th` (R89). -/
def State.fetched (s : State) (i : Instr) : State := s.opened.seeWords (s.pc + 2#24) (i.length / 2 - 1)

/-- Where `R:W NEXT` stands in the row of an instruction in Table 2.10 (R89, R112). -/
inductive NextRead where
  /-- Before the data cycles; the word is held for the next step. -/
  | first
  /-- As `first`, and then the word at the branch address is read too (R472). -/
  | branch
  /-- Between the read and the write of a memory bit instruction; its meaning reads it (R423). -/
  | within
  /-- Before the data cycles; the word is not used, since the row reads later what runs next (R470). -/
  | dropped
  /-- After the data cycles, or not at all where the row ends with the read at a branch target. -/
  | last
  deriving DecidableEq, Repr

/-- Where an instruction reads NEXT: before its data cycles (R112, R472); within (R423); in vain, as jumps,
calls, returns and TRAPA of one word do (R474 to R480, R501, R503); last (R423, R552) or not at all (R473,
R474, R476, R478). -/
def nextRead (i : Instr) : NextRead :=
  match i with
  | .movBReg _ _ | .movWReg _ _ | .movLReg _ _ | .movBImm _ _ | .movWImm _ _ | .movLImm _ _
  | .movBLoadInd _ _ | .movBLoadDisp16 _ _ _ | .movBLoadDisp24 _ _ _ | .movBLoadInc _ _
  | .movBLoadAbs8 _ _ | .movBLoadAbs16 _ _ | .movBLoadAbs24 _ _ | .movWLoadInd _ _
  | .movWLoadDisp16 _ _ _ | .movWLoadDisp24 _ _ _ | .movWLoadInc _ _ | .movWLoadAbs16 _ _
  | .movWLoadAbs24 _ _ | .movLLoadInd _ _ | .movLLoadDisp16 _ _ _ | .movLLoadDisp24 _ _ _
  | .movLLoadInc _ _ | .movLLoadAbs16 _ _ | .movLLoadAbs24 _ _ | .movBStoreInd _ _
  | .movBStoreDisp16 _ _ _ | .movBStoreDisp24 _ _ _ | .movBStoreDec _ _ | .movBStoreAbs8 _ _
  | .movBStoreAbs16 _ _ | .movBStoreAbs24 _ _ | .movWStoreInd _ _ | .movWStoreDisp16 _ _ _
  | .movWStoreDisp24 _ _ _ | .movWStoreDec _ _ | .movWStoreAbs16 _ _ | .movWStoreAbs24 _ _
  | .movLStoreInd _ _ | .movLStoreDisp16 _ _ _ | .movLStoreDisp24 _ _ _ | .movLStoreDec _ _
  | .movLStoreAbs16 _ _ | .movLStoreAbs24 _ _ | .popW _ | .popL _ | .pushW _ | .pushL _ | .movfpe _ _
  | .movtpe _ _ | .addBImm _ _ | .addBReg _ _ | .addWImm _ _ | .addWReg _ _ | .addLImm _ _
  | .addLReg _ _ | .adds1 _ | .adds2 _ | .adds4 _ | .addxImm _ _ | .addxReg _ _ | .subBReg _ _
  | .subWImm _ _ | .subWReg _ _ | .subLImm _ _ | .subLReg _ _ | .subs1 _ | .subs2 _ | .subs4 _
  | .subxImm _ _ | .subxReg _ _ | .incB _ | .incW1 _ | .incW2 _ | .incL1 _ | .incL2 _ | .decB _
  | .decW1 _ | .decW2 _ | .decL1 _ | .decL2 _ | .daa _ | .das _ | .mulxuB _ _ | .mulxuW _ _
  | .mulxsB _ _ | .mulxsW _ _ | .divxuB _ _ | .divxuW _ _ | .divxsB _ _ | .divxsW _ _ | .cmpBImm _ _
  | .cmpBReg _ _ | .cmpWImm _ _ | .cmpWReg _ _ | .cmpLImm _ _ | .cmpLReg _ _ | .negB _ | .negW _
  | .negL _ | .extsW _ | .extsL _ | .extuW _ | .extuL _ | .andBImm _ _ | .andBReg _ _ | .andWImm _ _
  | .andWReg _ _ | .andLImm _ _ | .andLReg _ _ | .orBImm _ _ | .orBReg _ _ | .orWImm _ _ | .orWReg _ _
  | .orLImm _ _ | .orLReg _ _ | .xorBImm _ _ | .xorBReg _ _ | .xorWImm _ _ | .xorWReg _ _
  | .xorLImm _ _ | .xorLReg _ _ | .notB _ | .notW _ | .notL _ | .shalB _ | .shalW _ | .shalL _
  | .sharB _ | .sharW _ | .sharL _ | .shllB _ | .shllW _ | .shllL _ | .shlrB _ | .shlrW _ | .shlrL _
  | .rotlB _ | .rotlW _ | .rotlL _ | .rotrB _ | .rotrW _ | .rotrL _ | .rotxlB _ | .rotxlW _ | .rotxlL _
  | .rotxrB _ | .rotxrW _ | .rotxrL _ | .bsetImmReg _ _ | .bsetRnReg _ _ | .bclrImmReg _ _
  | .bclrRnReg _ _ | .bnotImmReg _ _ | .bnotRnReg _ _ | .btstImmReg _ _ | .btstRnReg _ _ | .bandReg _ _
  | .biandReg _ _ | .borReg _ _ | .biorReg _ _ | .bxorReg _ _ | .bixorReg _ _ | .bldReg _ _
  | .bildReg _ _ | .bstReg _ _ | .bistReg _ _ | .sleep | .nop | .ldcImm _ | .ldcReg _ | .stcReg _
  | .andc _ | .orc _ | .xorc _ | .ldcLoadInd _ | .ldcLoadDisp16 _ _ | .ldcLoadDisp24 _ _
  | .ldcLoadInc _ | .ldcLoadAbs16 _ | .ldcLoadAbs24 _ | .stcStoreInd _ | .stcStoreDisp16 _ _
  | .stcStoreDisp24 _ _ | .stcStoreDec _ | .stcStoreAbs16 _ | .stcStoreAbs24 _ => .first
  | .braD8 _ | .brnD8 _ | .bhiD8 _ | .blsD8 _ | .bccD8 _ | .bcsD8 _ | .bneD8 _ | .beqD8 _ | .bvcD8 _
  | .bvsD8 _ | .bplD8 _ | .bmiD8 _ | .bgeD8 _ | .bltD8 _ | .bgtD8 _ | .bleD8 _ => .branch
  | .bsetImmInd _ _ | .bsetImmAbs _ _ | .bsetRnInd _ _ | .bsetRnAbs _ _ | .bclrImmInd _ _
  | .bclrImmAbs _ _ | .bclrRnInd _ _ | .bclrRnAbs _ _ | .bnotImmInd _ _ | .bnotImmAbs _ _
  | .bnotRnInd _ _ | .bnotRnAbs _ _ | .bstInd _ _ | .bstAbs _ _ | .bistInd _ _ | .bistAbs _ _ => .within
  | .bsrD8 _ | .jmpInd _ | .jmpMem _ | .jsrInd _ | .jsrMem _ | .rts | .trapa _ | .rte => .dropped
  | .btstImmInd _ _ | .btstImmAbs _ _ | .btstRnInd _ _ | .btstRnAbs _ _ | .bandInd _ _ | .bandAbs _ _
  | .biandInd _ _ | .biandAbs _ _ | .borInd _ _ | .borAbs _ _ | .biorInd _ _ | .biorAbs _ _
  | .bxorInd _ _ | .bxorAbs _ _ | .bixorInd _ _ | .bixorAbs _ _ | .bldInd _ _ | .bldAbs _ _
  | .bildInd _ _ | .bildAbs _ _ | .braD16 _ | .brnD16 _ | .bhiD16 _ | .blsD16 _ | .bccD16 _ | .bcsD16 _
  | .bneD16 _ | .beqD16 _ | .bvcD16 _ | .bvsD16 _ | .bplD16 _ | .bmiD16 _ | .bgeD16 _ | .bltD16 _
  | .bgtD16 _ | .bleD16 _ | .bsrD16 _ | .jmpAbs _ | .jsrAbs _ | .eepmovB | .eepmovW => .last

/-- The word of NEXT is held when the data cycles begin. -/
def NextRead.held : NextRead → Bool
  | .first | .branch => true
  | .within | .dropped | .last => false

/-- NEXT is read before the data cycles. -/
def NextRead.early : NextRead → Bool
  | .first | .branch | .dropped => true
  | .within | .last => false

/-- The read of NEXT before the data cycles, and what is held of it. -/
def State.readNext (s : State) (i : Instr) : State :=
  match nextRead i with
  | .first | .branch => s.readAhead (s.next i.length)
  | .dropped => { s.seeW (s.next i.length) with prefetch := none }
  | .within | .last => { s with prefetch := none }

/-- The state an instruction starts from: its words are read, and NEXT where it comes first; the inhibit is
used up (R89, R622). -/
def State.started (s : State) (i : Instr) : State := { (s.fetched i).readNext i with irqInhibit := false }

/-- One instruction: fetched, decoded and executed; an unassigned code is refused and reported (R150). -/
def State.runInstruction (s : State) : Result :=
  match decode s.fetchBytes with
  | .ok i =>
    match exec i (s.started i) with
    | .next t => .next t.fetchDue.tick
    | .fault r => .fault r
    | .refused r => .refused r
  | .error _ => .refused (.unassignedCode s.fetchBytes)

/-- Bytes put into memory from an address on. -/
def State.placed (s : State) (a : Addr) : List Byte → State
  | [] => s
  | b :: t => ({ s with mem := s.mem.set (s.red a).toNat b }).placed (a + 1#24) t

end

end Sys2Proof.Machine
end

