-- ==== Sys2Proof/Machine/Step.lean ====
section
/-! DEFINITION. One step of the machine: a host action, or else one instruction, the end of reset
exception handling, or nothing while the CPU is stopped. -/

namespace Sys2Proof.Machine

noncomputable section

/-- One step (R620, R640; log 22). -/
def step (s : State) : Host.Outcome State Fault Refusal :=
  match s.respond (s.host.headD .idle) with
  | some t => .next t.tick
  | none =>
    match s.pstate with
    | .programExecution => s.runInstruction
    | .exceptionHandling => .next s.finishReset.tick
    | _ => .next s.tick

/-- An instruction of the opcode table placed where the next step fetches it, with nothing from the host
in between: it stands for the platform's loading of a program (logs 10, 32). -/
def State.withFetchWord (s : State) (nbits w : Nat) : State :=
  let t := { s with pstate := .programExecution, prefetch := none, host := [] }.placed (s.wordAddr s.pc)
    (tableBytes nbits w)
  if t.par.memMap = [] then t else { t with par := { t.par with memMap := [] } }

end

end Sys2Proof.Machine
end

