-- ==== Sys2Proof/Machine/Timing.lean ====
section
/-! DEFINITION. The state counts of the manual (70_reset_and_hazards.md R730 to R733): information only.
No step reads them, and the machine has no clock (D18, log 34). -/

namespace Sys2Proof.Machine

/-- The cycles of an instruction by kind (R730). -/
structure Cycles where
  /-- I: instruction fetch. -/
  i : Nat
  /-- J: branch address read. -/
  j : Nat
  /-- K: stack operation. -/
  k : Nat
  /-- L: byte data access. -/
  l : Nat
  /-- M: word data access. -/
  m : Nat
  /-- N: internal operation. -/
  n : Nat
  deriving DecidableEq, Repr

/-- The classes of access targets (R731). -/
inductive Target where
  | onChipMemory
  | peripheral8
  | peripheral16
  | external8in2
  /-- Three states and `wait` wait states. -/
  | external8in3 (wait : Nat)
  | external16in2
  | external16in3 (wait : Nat)
  deriving DecidableEq, Repr

/-- The states of a word access: SI, SJ, SK and SM (R731). -/
def Target.wordStates : Target → Nat
  | .onChipMemory => 2
  | .peripheral8 => 6
  | .peripheral16 => 3
  | .external8in2 => 4
  | .external8in3 m => 6 + 2 * m
  | .external16in2 => 2
  | .external16in3 m => 3 + m

/-- The states of a byte access: SL (R731). -/
def Target.byteStates : Target → Nat
  | .onChipMemory => 2
  | .peripheral8 => 3
  | .peripheral16 => 3
  | .external8in2 => 2
  | .external8in3 m => 3 + m
  | .external16in2 => 2
  | .external16in3 m => 3 + m

/-- The states of one internal operation: SN (R731). -/
def internalStates : Nat := 1

/-- `I·SI + J·SJ + K·SK + L·SL + M·SM + N·SN` (R730), with the target of each kind of access. -/
def Cycles.states (c : Cycles) (code pointer stack byteData wordData : Target) : Nat :=
  c.i * code.wordStates + c.j * pointer.wordStates + c.k * stack.wordStates + c.l * byteData.byteStates
    + c.m * wordData.wordStates + c.n * internalStates

/-- The words of a code address: 1 in normal mode, 2 in advanced mode. -/
def pointerWords : Mode → Nat
  | .normal => 1
  | .advanced => 2

/-- Table 2.8 (R487, R733). `count` is n of EEPMOV: R4L or R4 at its start. The byte access of MOVFPE and
MOVTPE takes a number of states the source does not state (R719). -/
def cyclesOf (i : Instr) (mode : Mode) (count : Nat) : Cycles :=
  let p := pointerWords mode
  match i with
  | .movBReg _ _ | .movWReg _ _ | .movLReg _ _ | .movBImm _ _ | .addBImm _ _ | .addBReg _ _
  | .addWReg _ _ | .addLReg _ _ | .adds1 _ | .adds2 _ | .adds4 _ | .addxImm _ _ | .addxReg _ _
  | .subBReg _ _ | .subWReg _ _ | .subLReg _ _ | .subs1 _ | .subs2 _ | .subs4 _ | .subxImm _ _
  | .subxReg _ _ | .incB _ | .incW1 _ | .incW2 _ | .incL1 _ | .incL2 _ | .decB _ | .decW1 _ | .decW2 _
  | .decL1 _ | .decL2 _ | .daa _ | .das _ | .cmpBImm _ _ | .cmpBReg _ _ | .cmpWReg _ _ | .cmpLReg _ _
  | .negB _ | .negW _ | .negL _ | .extsW _ | .extsL _ | .extuW _ | .extuL _ | .andBImm _ _
  | .andBReg _ _ | .andWReg _ _ | .orBImm _ _ | .orBReg _ _ | .orWReg _ _ | .xorBImm _ _ | .xorBReg _ _
  | .xorWReg _ _ | .notB _ | .notW _ | .notL _ | .shalB _ | .shalW _ | .shalL _ | .sharB _ | .sharW _
  | .sharL _ | .shllB _ | .shllW _ | .shllL _ | .shlrB _ | .shlrW _ | .shlrL _ | .rotlB _ | .rotlW _
  | .rotlL _ | .rotrB _ | .rotrW _ | .rotrL _ | .rotxlB _ | .rotxlW _ | .rotxlL _ | .rotxrB _
  | .rotxrW _ | .rotxrL _ | .bsetImmReg _ _ | .bsetRnReg _ _ | .bclrImmReg _ _ | .bclrRnReg _ _
  | .bnotImmReg _ _ | .bnotRnReg _ _ | .btstImmReg _ _ | .btstRnReg _ _ | .bandReg _ _ | .biandReg _ _
  | .borReg _ _ | .biorReg _ _ | .bxorReg _ _ | .bixorReg _ _ | .bldReg _ _ | .bildReg _ _
  | .bstReg _ _ | .bistReg _ _ | .sleep | .nop | .ldcImm _ | .ldcReg _ | .stcReg _ | .andc _ | .orc _
  | .xorc _ => ⟨1, 0, 0, 0, 0, 0⟩
  | .movWImm _ _ | .addWImm _ _ | .subWImm _ _ | .cmpWImm _ _ | .andWImm _ _ | .andLReg _ _
  | .orWImm _ _ | .orLReg _ _ | .xorWImm _ _ | .xorLReg _ _ | .braD8 _ | .brnD8 _ | .bhiD8 _ | .blsD8 _
  | .bccD8 _ | .bcsD8 _ | .bneD8 _ | .beqD8 _ | .bvcD8 _ | .bvsD8 _ | .bplD8 _ | .bmiD8 _ | .bgeD8 _
  | .bltD8 _ | .bgtD8 _ | .bleD8 _ | .jmpInd _ => ⟨2, 0, 0, 0, 0, 0⟩
  | .movLImm _ _ | .addLImm _ _ | .subLImm _ _ | .cmpLImm _ _ | .andLImm _ _ | .orLImm _ _
  | .xorLImm _ _ => ⟨3, 0, 0, 0, 0, 0⟩
  | .movBLoadInd _ _ | .movBLoadAbs8 _ _ | .movBStoreInd _ _ | .movBStoreAbs8 _ _ => ⟨1, 0, 0, 1, 0, 0⟩
  | .movBLoadDisp16 _ _ _ | .movBLoadAbs16 _ _ | .movBStoreDisp16 _ _ _ | .movBStoreAbs16 _ _
  | .movfpe _ _ | .movtpe _ _ | .btstImmInd _ _ | .btstImmAbs _ _ | .btstRnInd _ _ | .btstRnAbs _ _
  | .bandInd _ _ | .bandAbs _ _ | .biandInd _ _ | .biandAbs _ _ | .borInd _ _ | .borAbs _ _
  | .biorInd _ _ | .biorAbs _ _ | .bxorInd _ _ | .bxorAbs _ _ | .bixorInd _ _ | .bixorAbs _ _
  | .bldInd _ _ | .bldAbs _ _ | .bildInd _ _ | .bildAbs _ _ => ⟨2, 0, 0, 1, 0, 0⟩
  | .movBLoadDisp24 _ _ _ | .movBStoreDisp24 _ _ _ => ⟨4, 0, 0, 1, 0, 0⟩
  | .movBLoadInc _ _ | .movBStoreDec _ _ => ⟨1, 0, 0, 1, 0, 2⟩
  | .movBLoadAbs24 _ _ | .movBStoreAbs24 _ _ => ⟨3, 0, 0, 1, 0, 0⟩
  | .movWLoadInd _ _ | .movWStoreInd _ _ => ⟨1, 0, 0, 0, 1, 0⟩
  | .movWLoadDisp16 _ _ _ | .movWLoadAbs16 _ _ | .movWStoreDisp16 _ _ _ | .movWStoreAbs16 _ _
  | .ldcLoadInd _ | .stcStoreInd _ => ⟨2, 0, 0, 0, 1, 0⟩
  | .movWLoadDisp24 _ _ _ | .movWStoreDisp24 _ _ _ | .ldcLoadAbs24 _ | .stcStoreAbs24 _ => ⟨4, 0, 0, 0, 1, 0⟩
  | .movWLoadInc _ _ | .movWStoreDec _ _ | .popW _ | .pushW _ => ⟨1, 0, 0, 0, 1, 2⟩
  | .movWLoadAbs24 _ _ | .movWStoreAbs24 _ _ | .ldcLoadDisp16 _ _ | .ldcLoadAbs16 _
  | .stcStoreDisp16 _ _ | .stcStoreAbs16 _ => ⟨3, 0, 0, 0, 1, 0⟩
  | .movLLoadInd _ _ | .movLStoreInd _ _ => ⟨2, 0, 0, 0, 2, 0⟩
  | .movLLoadDisp16 _ _ _ | .movLLoadAbs16 _ _ | .movLStoreDisp16 _ _ _ | .movLStoreAbs16 _ _ => ⟨3, 0, 0, 0, 2, 0⟩
  | .movLLoadDisp24 _ _ _ | .movLStoreDisp24 _ _ _ => ⟨5, 0, 0, 0, 2, 0⟩
  | .movLLoadInc _ _ | .movLStoreDec _ _ | .popL _ | .pushL _ => ⟨2, 0, 0, 0, 2, 2⟩
  | .movLLoadAbs24 _ _ | .movLStoreAbs24 _ _ => ⟨4, 0, 0, 0, 2, 0⟩
  | .mulxuB _ _ | .divxuB _ _ => ⟨1, 0, 0, 0, 0, 12⟩
  | .mulxuW _ _ | .divxuW _ _ => ⟨1, 0, 0, 0, 0, 20⟩
  | .mulxsB _ _ | .divxsB _ _ => ⟨2, 0, 0, 0, 0, 12⟩
  | .mulxsW _ _ | .divxsW _ _ => ⟨2, 0, 0, 0, 0, 20⟩
  | .bsetImmInd _ _ | .bsetImmAbs _ _ | .bsetRnInd _ _ | .bsetRnAbs _ _ | .bclrImmInd _ _
  | .bclrImmAbs _ _ | .bclrRnInd _ _ | .bclrRnAbs _ _ | .bnotImmInd _ _ | .bnotImmAbs _ _
  | .bnotRnInd _ _ | .bnotRnAbs _ _ | .bstInd _ _ | .bstAbs _ _ | .bistInd _ _ | .bistAbs _ _ => ⟨2, 0, 0, 2, 0, 0⟩
  | .braD16 _ | .brnD16 _ | .bhiD16 _ | .blsD16 _ | .bccD16 _ | .bcsD16 _ | .bneD16 _ | .beqD16 _
  | .bvcD16 _ | .bvsD16 _ | .bplD16 _ | .bmiD16 _ | .bgeD16 _ | .bltD16 _ | .bgtD16 _ | .bleD16 _
  | .jmpAbs _ => ⟨2, 0, 0, 0, 0, 2⟩
  | .bsrD8 _ | .jsrInd _ => ⟨2, 0, p, 0, 0, 0⟩
  | .bsrD16 _ | .jsrAbs _ | .rts => ⟨2, 0, p, 0, 0, 2⟩
  | .jmpMem _ => ⟨2, p, 0, 0, 0, 2⟩
  | .jsrMem _ => ⟨2, p, p, 0, 0, 0⟩
  | .trapa _ => ⟨2, p, 2, 0, 0, 4⟩
  | .rte => ⟨2, 0, 2, 0, 0, 2⟩
  | .ldcLoadDisp24 _ _ | .stcStoreDisp24 _ _ => ⟨5, 0, 0, 0, 1, 0⟩
  | .ldcLoadInc _ | .stcStoreDec _ => ⟨2, 0, 0, 0, 1, 2⟩
  | .eepmovB | .eepmovW => ⟨2, 0, 0, 2 * count + 2, 0, 0⟩

/-- Interrupt exception handling: the same cycles as TRAPA (R733). -/
def entryCycles (mode : Mode) : Cycles := ⟨2, pointerWords mode, 2, 0, 0, 4⟩

/-- Reset exception handling (R733). -/
def resetCycles (mode : Mode) : Cycles := ⟨1, pointerWords mode, 0, 0, 0, 2⟩

end Sys2Proof.Machine
end

