-- ==== Sys2Proof/Safety.lean ====
section
/-! DEFINITION. What claims speak of: the invariant of every step, the named premises and ends of a run
(R8, R711, R725), and what an instruction writes and leaves alone. -/

namespace Sys2Proof.Machine

/-! ### Invariant, premises, ends -/

/-- The form of a stored PC: bit 0 is 0, and in normal mode bits 23 to 16 are 0 (R51). -/
def State.PcFormed (s : State) : Prop := s.pcForm s.pc = s.pc

/-- The invariant that every step keeps: memory is in its canonical form and PC is stored reduced. -/
def State.Inv (s : State) : Prop := s.mem.wf = true ∧ s.PcFormed

/-- `SP_EVEN` (R8, R711): a premise a claim may take, not a property of the machine. -/
def State.SpEven (s : State) : Prop := (s.reg32 .er7).getLsbD 0 = false

/-- The end of a run named by an address (R725): the address is a parameter of the claim. That an instruction
boundary is a state of program execution is DESIGN CHOICE (log 40): a CPU that SLEEP has just put to sleep, or
one that is stopped in another way, with PC at that address has not reached it. -/
def State.AtEnd (endPc : Addr) (s : State) : Prop := s.pstate = .programExecution ∧ s.pc = endPc

/-- The request is not masked (R621). -/
def Unmasked (s : State) (r : Request) : Prop :=
  r.nmi = true ∨ s.flag .i = false ∨ (s.par.uiIsMask = true ∧ s.flag .ui = false ∧ r.passesUi = true)

/-- The CPU looks for this request at the end of the last instruction (R620, R622, R645, R646). -/
def Samples (s : State) (r : Request) : Prop :=
  (s.pstate = .programExecution ∧ s.irqInhibit = false) ∨ s.pstate = .sleep ∨
    (s.pstate = .softwareStandby ∧ r.external = true)

/-- A host action that ends sleep or software standby: a request that is accepted, a reset, hardware standby
(R643, R645, R646, R647). -/
def Wakes (s : State) : HostEvent → Prop
  | .request r => Samples s r ∧ Unmasked s r
  | .resLow | .stbyLow => True
  | .idle | .nmiDuringBlock _ | .resHigh | .stbyHigh | .busRequest | .busEnd | .masterWrite _ _ | .setSsby _ => False

/-- The quiescent end of a run: the CPU is in sleep or software standby, and the host never does what ends
that; it may present masked requests (R504, R725). -/
def State.Quiescent (s : State) : Prop :=
  (s.pstate = .sleep ∨ s.pstate = .softwareStandby) ∧ ∀ e ∈ s.host, ¬ Wakes s e

/-- Everything in the address space is ordinary memory (D2). -/
def State.AllMemory (s : State) : Prop := s.par.memMap = []

/-- The address after the instruction (R52, R53). -/
def State.nextPc (s : State) (i : Instr) : Addr := s.pcForm (s.pc + BitVec.ofNat 24 i.length)

/-- What an instruction does: the state before, the address after the instruction, the state after. -/
abbrev Effect := State → Addr → State → Prop

/-- THE INSTRUCTION COMPLETES: `exec` answers a next state, and that state is as the effect says. -/
def Runs (i : Instr) (s : State) (e : Effect) : Prop := ∃ t, exec i s = .next t ∧ e s (s.nextPc i) t

/-! ### What is left alone -/

/-- Every byte of memory is as before. -/
def SameMemory (s t : State) : Prop := ∀ a : Nat, t.mem.get a = s.mem.get a

/-- Every general register is as before. -/
def SameRegs (s t : State) : Prop := ∀ n : ER, t.reg32 n = s.reg32 n

/-- Every general register but one is as before. -/
def SameRegsBut (k : ER) (s t : State) : Prop := ∀ n : ER, n ≠ k → t.reg32 n = s.reg32 n

/-- Every bit of CCR outside a list is as before. -/
def SameFlagsBut (fs : List Flag) (s t : State) : Prop := ∀ f : Flag, f ∉ fs → t.flag f = s.flag f

/-- The processing state, the interrupt inhibit, the word read ahead, the parameters, SSBY and the host's
schedule are as before. -/
def SameControl (s t : State) : Prop :=
  t.pstate = s.pstate ∧ t.irqInhibit = s.irqInhibit ∧ t.prefetch = s.prefetch ∧ t.par = s.par ∧
    t.ssby = s.ssby ∧ t.host = s.host

/-- The transcript of device cycles and the number of free values drawn are as before. -/
def SameRecord (s t : State) : Prop := t.bus = s.bus ∧ t.draws = s.draws

/-- Nothing but registers, CCR and PC may have changed. -/
def Quiet (s t : State) : Prop := SameMemory s t ∧ SameControl s t ∧ SameRecord s t

/-! ### Registers written (R41, R42) -/

/-- An 8-bit register holds a value; the other 8-bit registers and the extended registers are as before. -/
def Wrote8 (rd : R8) (v : Byte) (s t : State) : Prop :=
  t.reg8 rd = v ∧ (∀ r : R8, r ≠ rd → t.reg8 r = s.reg8 r) ∧ ∀ n : ER, t.reg16 (.e n) = s.reg16 (.e n)

/-- A 16-bit register holds a value; the other 16-bit registers are as before. -/
def Wrote16 (rd : R16) (v : Word) (s t : State) : Prop :=
  t.reg16 rd = v ∧ ∀ r : R16, r ≠ rd → t.reg16 r = s.reg16 r

/-- A 32-bit register holds a value; the others are as before. -/
def Wrote32 (rd : ER) (v : Long) (s t : State) : Prop := t.reg32 rd = v ∧ SameRegsBut rd s t

/-! ### Flags -/

/-- N, Z from a value and V cleared, the other five bits kept (R200, R360). -/
def TransferFlags {w : Nat} (v : BitVec w) (s t : State) : Prop :=
  t.flag .n = v.msb ∧ t.flag .z = decide (v = 0) ∧ t.flag .v = false ∧ SameFlagsBut [.n, .z, .v] s t

/-- The flags of `a + b + c` on `w` bits (R19, R260): H and C are carries out of bits w - 5 and w - 1, V says
that the signed sum does not fit. -/
def AddFlags {w : Nat} (a b : BitVec w) (c : Bool) (s t : State) : Prop :=
  let r := a + b + BitVec.ofNat w c.toNat
  t.flag .h = decide (2 ^ (w - 4) ≤ a.toNat % 2 ^ (w - 4) + b.toNat % 2 ^ (w - 4) + c.toNat) ∧
    t.flag .n = r.msb ∧
    t.flag .v = decide (a.toInt + b.toInt + c.toNat ≠ r.toInt) ∧
    t.flag .c = decide (2 ^ w ≤ a.toNat + b.toNat + c.toNat) ∧
    SameFlagsBut [.h, .n, .z, .v, .c] s t

/-- The flags of `a - b - c` on `w` bits (R19, R269). -/
def SubFlags {w : Nat} (a b : BitVec w) (c : Bool) (s t : State) : Prop :=
  let r := a - b - BitVec.ofNat w c.toNat
  t.flag .h = decide (a.toNat % 2 ^ (w - 4) < b.toNat % 2 ^ (w - 4) + c.toNat) ∧
    t.flag .n = r.msb ∧
    t.flag .v = decide (a.toInt - b.toInt - c.toNat ≠ r.toInt) ∧
    t.flag .c = decide (a.toNat < b.toNat + c.toNat) ∧
    SameFlagsBut [.h, .n, .z, .v, .c] s t

/-! ### Memory accesses -/

/-- The transcript and the draws after a read cycle at an address (D2, R90). -/
def RecordRead (p : Addr) (cycle : BusCycle) (s t : State) : Prop :=
  match s.kindAt p with
  | none => SameRecord s t
  | some .absent => t.bus = s.bus ∧ t.draws = s.draws + 1
  | some .device => t.bus = cycle :: s.bus ∧ t.draws = s.draws + 1

/-- The transcript and the draws after word reads at addresses, one after the other (R86, R89). -/
def RecordReads : List Addr → State → State → Prop
  | [], s, t => SameRecord s t
  | a :: rest, s, t =>
    ∃ u : State, u.par = s.par ∧ RecordRead (s.wordAddr a) (.readWord (s.wordAddr a)) s u ∧ RecordReads rest u t

/-- The fetches from the beginning of a step to the first data cycle of the instruction: the first word where
it is not held, the other words, and NEXT where it comes first (R89, R112). -/
def State.fetchAddresses (s : State) (i : Instr) : List Addr :=
  (if s.prefetch = none then [s.pc] else []) ++
    (List.range (i.length / 2 - 1)).map (fun k => s.pc + 2#24 + BitVec.ofNat 24 (2 * k)) ++
    if (nextRead i).early then [s.nextPc i] else []

/-- A byte write at a reduced address and nothing else of memory (R85, D2). -/
def StoredB (p : Addr) (v : Byte) (s t : State) : Prop :=
  match s.kindAt p with
  | none => t.mem.get p.toNat = v ∧ (∀ a : Nat, a ≠ p.toNat → t.mem.get a = s.mem.get a) ∧ t.bus = s.bus
  | some .absent => SameMemory s t ∧ t.bus = s.bus
  | some .device => SameMemory s t ∧ t.bus = .writeByte p v :: s.bus

/-- A word write at an even reduced address and nothing else of memory; a byte that is not given may be
anything (R85, R477, R525, D2). -/
def StoredW (e : Addr) (h l : Option Byte) (s t : State) : Prop :=
  match s.kindAt e with
  | none =>
    (∀ v, h = some v → t.mem.get e.toNat = v) ∧ (∀ v, l = some v → t.mem.get (s.red (e + 1#24)).toNat = v) ∧
      (∀ a : Nat, a ≠ e.toNat → a ≠ (s.red (e + 1#24)).toNat → t.mem.get a = s.mem.get a) ∧ t.bus = s.bus
  | some .absent => SameMemory s t ∧ t.bus = s.bus
  | some .device =>
    SameMemory s t ∧ ∃ w : Word, t.bus = .writeWord e w :: s.bus ∧
      (∀ v, h = some v → w.extractLsb' 8 8 = v) ∧ ∀ v, l = some v → w.extractLsb' 0 8 = v

/-- The two bytes of a word. -/
def upper (v : Word) : Option Byte := some (v.extractLsb' 8 8)

/-- The two bytes of a word. -/
def lower (v : Word) : Option Byte := some (v.extractLsb' 0 8)

/-- Two word writes, one after the other, and nothing else of memory (R86). -/
def StoredWW (e1 : Addr) (h1 l1 : Option Byte) (e2 : Addr) (h2 l2 : Option Byte) (s t : State) : Prop :=
  ∃ u : State, u.par = s.par ∧ StoredW e1 h1 l1 s u ∧ StoredW e2 h2 l2 u t

/-- A longword write: the upper word at EA, the lower at EA + 2 (R86). -/
def StoredL (a : Addr) (v : Long) (s t : State) : Prop :=
  StoredWW (s.wordAddr a) (upper (v.extractLsb' 16 16)) (lower (v.extractLsb' 16 16))
    (s.wordAddr (s.wordAddr a + 2#24)) (upper (v.extractLsb' 0 16)) (lower (v.extractLsb' 0 16)) s t

/-! ### Effects of register instructions

`Wrote` is `Wrote8`, `Wrote16` or `Wrote32`: it says which register holds the result and that the others
are as before. Memory, the control state and the transcript are as before in all of these. -/

/-- A register result, with what the instruction does to the flags. -/
def Gives {α : Type} {w : Nat} (Wrote : α → BitVec w → State → State → Prop) (rd : α) (v : BitVec w)
    (flags : State → State → Prop) : Effect := fun s n t =>
  Wrote rd v s t ∧ flags s t ∧ t.pc = n ∧ Quiet s t

/-- No flag changes. -/
def SameCcr (s t : State) : Prop := t.ccr = s.ccr

/-- A value moved or computed, with the flags of a transfer (R200, R360). -/
def Moves {α : Type} {w : Nat} (Wrote : α → BitVec w → State → State → Prop) (rd : α) (v : BitVec w) : Effect :=
  Gives Wrote rd v (TransferFlags v)

/-- An addition with carry-in `c`; Z is the parameter (R260, R266). -/
def Adds {α : Type} {w : Nat} (Wrote : α → BitVec w → State → State → Prop) (rd : α) (a b : BitVec w)
    (c : Bool) (z : BitVec w → Bool) : Effect :=
  Gives Wrote rd (a + b + BitVec.ofNat w c.toNat) fun s t =>
    AddFlags a b c s t ∧ t.flag .z = z (a + b + BitVec.ofNat w c.toNat)

/-- A subtraction with borrow-in `c`; Z is the parameter (R269, R276). -/
def Subtracts {α : Type} {w : Nat} (Wrote : α → BitVec w → State → State → Prop) (rd : α) (a b : BitVec w)
    (c : Bool) (z : BitVec w → Bool) : Effect :=
  Gives Wrote rd (a - b - BitVec.ofNat w c.toNat) fun s t =>
    SubFlags a b c s t ∧ t.flag .z = z (a - b - BitVec.ofNat w c.toNat)

/-- Z of ADD, SUB, CMP and NEG: the result is zero (R260, R269). -/
def isZero {w : Nat} (r : BitVec w) : Bool := decide (r = 0)

/-- Z of ADDX and SUBX: kept when the result is zero, cleared otherwise (R266, R276). -/
def keepsZero {w : Nat} (before : Bool) (r : BitVec w) : Bool := if r = 0 then before else false

/-- The flags of a subtraction and nothing else (R335). -/
def Compares {w : Nat} (a b : BitVec w) : Effect := fun s n t =>
  SameRegs s t ∧ SubFlags a b false s t ∧ t.flag .z = isZero (a - b) ∧ t.pc = n ∧ Quiet s t

/-- INC and DEC (R279): N and Z from the result, V says that it differs from the exact one; H, C and the
other bits are kept. -/
def Counts {α : Type} {w : Nat} (Wrote : α → BitVec w → State → State → Prop) (rd : α) (r : BitVec w)
    (exact : Int) : Effect :=
  Gives Wrote rd r fun s t =>
    t.flag .n = r.msb ∧ t.flag .z = isZero r ∧ t.flag .v = decide (exact ≠ r.toInt) ∧
      SameFlagsBut [.n, .z, .v] s t

/-- N and Z take values and the other bits of CCR are kept (R322, R325). -/
def NZFlags (n z : Bool) (s t : State) : Prop :=
  t.flag .n = n ∧ t.flag .z = z ∧ SameFlagsBut [.n, .z] s t

/-- A shift or rotate by one bit (R390): the result, C and V are as `p` says; N and Z come from the result;
H and the other bits are kept. -/
def Shifts {α : Type} {w : Nat} (Wrote : α → BitVec w → State → State → Prop) (rd : α)
    (p : BitVec w → (carry : Bool) → (overflow : Bool) → Prop) : Effect := fun s n t =>
  ∃ r : BitVec w, p r (t.flag .c) (t.flag .v) ∧
    Gives Wrote rd r
      (fun s t => t.flag .n = r.msb ∧ t.flag .z = isZero r ∧ SameFlagsBut [.n, .z, .v, .c] s t) s n t

/-! ### Effects of loads and stores -/

/-- A byte load: the register is written after the address register is stepped (R207, R210). -/
def LoadsB (m : MemOperand) (rd : R8) : Effect := fun s n t =>
  let p := s.red (m.ea 1 s)
  let v := s.loadB (m.ea 1 s)
  Wrote8 rd v (m.step 1 s) t ∧ TransferFlags v s t ∧ t.pc = n ∧ SameMemory s t ∧ SameControl s t ∧
    RecordRead p (.readByte p) s t

/-- A word load (R208, R210). -/
def LoadsW (m : MemOperand) (rd : R16) : Effect := fun s n t =>
  let e := s.wordAddr (m.ea 2 s)
  let v := s.loadW (m.ea 2 s)
  Wrote16 rd v (m.step 2 s) t ∧ TransferFlags v s t ∧ t.pc = n ∧ SameMemory s t ∧ SameControl s t ∧
    RecordRead e (.readWord e) s t

/-- A longword load: two word reads, EA first (R86, R209, R210). -/
def LoadsL (m : MemOperand) (erd : ER) : Effect := fun s n t =>
  let e1 := s.wordAddr (m.ea 4 s)
  let e2 := s.wordAddr (e1 + 2#24)
  let v := s.loadL (m.ea 4 s)
  Wrote32 erd v (m.step 4 s) t ∧ TransferFlags v s t ∧ t.pc = n ∧ SameMemory s t ∧ SameControl s t ∧
    ∃ u : State, u.par = s.par ∧ RecordRead e1 (.readWord e1) s u ∧ RecordRead e2 (.readWord e2) u t

/-- A byte store: the source is read after the address register is stepped (R211). -/
def StoresB (m : MemOperand) (rs : R8) : Effect := fun s n t =>
  let v := (m.step 1 s).reg8 rs
  StoredB (s.red (m.ea 1 s)) v s t ∧ t.draws = s.draws ∧ SameRegs (m.step 1 s) t ∧ TransferFlags v s t ∧
    t.pc = n ∧ SameControl s t

/-- A word store (R216). -/
def StoresW (m : MemOperand) (rs : R16) : Effect := fun s n t =>
  let v := (m.step 2 s).reg16 rs
  StoredW (s.wordAddr (m.ea 2 s)) (upper v) (lower v) s t ∧ t.draws = s.draws ∧ SameRegs (m.step 2 s) t ∧
    TransferFlags v s t ∧ t.pc = n ∧ SameControl s t

/-- A longword store (R221). -/
def StoresL (m : MemOperand) (ers : ER) : Effect := fun s n t =>
  let v := (m.step 4 s).reg32 ers
  StoredL (m.ea 4 s) v s t ∧ t.draws = s.draws ∧ SameRegs (m.step 4 s) t ∧ TransferFlags v s t ∧ t.pc = n ∧
    SameControl s t

/-! ### Effects of the bit instructions -/

/-- A byte of memory is read, changed and written back, in two byte cycles at one address, with the read of
the next instruction word between them (R423). -/
def ChangesByte (m : MemOperand) (f : Byte → Byte) : Effect := fun s n t =>
  let p := s.red (m.ea 1 s)
  ∃ r u : State, r.par = s.par ∧ u.par = s.par ∧ SameMemory s r ∧ SameMemory s u ∧
    RecordRead p (.readByte p) s r ∧ RecordRead (s.wordAddr n) (.readWord (s.wordAddr n)) r u ∧
    StoredB p (f (s.loadB (m.ea 1 s))) u t ∧ t.draws = u.draws ∧
    SameRegs s t ∧ t.ccr = s.ccr ∧ t.pc = n ∧ SameControl { s with prefetch := some (r.loadW n) } t

/-- One flag takes a value; nothing else changes (R433, R440 to R447). -/
def SetsFlag (f : Flag) (x : Bool) : Effect := fun s n t =>
  t.flag f = x ∧ SameFlagsBut [f] s t ∧ SameRegs s t ∧ t.pc = n ∧ Quiet s t

/-- One flag takes a value read from a byte of memory (R423). -/
def SetsFlagFrom (m : MemOperand) (f : Flag) (x : Byte → Bool) : Effect := fun s n t =>
  let p := s.red (m.ea 1 s)
  t.flag f = x (s.loadB (m.ea 1 s)) ∧ SameFlagsBut [f] s t ∧ SameRegs s t ∧ t.pc = n ∧ SameMemory s t ∧
    SameControl s t ∧ RecordRead p (.readByte p) s t

/-- The bit a register names (R421). -/
def bitIn (s : State) (rn : R8) : Nat := (s.reg8 rn).toNat % 8

/-- A byte with bit `n` set (R430). -/
def bitSet (n : Nat) (b : Byte) : Byte := b ||| 1#8 <<< n

/-- A byte with bit `n` cleared (R431). -/
def bitCleared (n : Nat) (b : Byte) : Byte := b &&& ~~~(1#8 <<< n)

/-- A byte with bit `n` inverted (R432). -/
def bitInverted (n : Nat) (b : Byte) : Byte := b ^^^ 1#8 <<< n

/-- A byte with bit `n` replaced (R448). -/
def bitStored (x : Bool) (n : Nat) (b : Byte) : Byte := (b &&& ~~~(1#8 <<< n)) ||| BitVec.ofNat 8 x.toNat <<< n

/-! ### Effects of branches -/

/-- PC goes to an address; nothing else changes (R470, R51). -/
def GoesTo (target : Addr) : Effect := fun s _ t =>
  t.pc = s.pcForm target ∧ SameRegs s t ∧ t.ccr = s.ccr ∧ Quiet s t

/-- A branch to `next + disp` if a condition holds, to `next` otherwise, with a 16-bit displacement (R473). -/
def Branches (condition : Bool) (disp : Addr) : Effect := fun s n t =>
  GoesTo (if condition then n + disp else n) s n t

/-- A branch with an 8-bit displacement: the word at `next + disp` is read in both cases, and it runs next if
the condition holds (R472, log 39). -/
def BranchesShort (condition : Bool) (disp : Addr) : Effect := fun s n t =>
  t.pc = s.pcForm (if condition then n + disp else n) ∧ SameRegs s t ∧ t.ccr = s.ccr ∧ SameMemory s t ∧
    RecordRead (s.wordAddr (n + disp)) (.readWord (s.wordAddr (n + disp))) s t ∧
    SameControl { s with prefetch := if condition then some (s.loadW (n + disp)) else s.prefetch } t

/-- A code address is read from memory and PC goes to it (R102, R476). -/
def GoesThrough (pointer : Addr) : Effect := fun s _ t =>
  t.pc = s.pcForm (s.loadPointer pointer) ∧ SameRegs s t ∧ t.ccr = s.ccr ∧ SameMemory s t ∧ SameControl s t ∧
    t.bus = (s.seePointer pointer).bus ∧ t.draws = (s.seePointer pointer).draws

/-- A subroutine call: the frame of R477 holds the address after the instruction, SP is lowered by its
size, and PC goes to the target. `u` is the state after the read that comes before the push, of the target or
of the pointer of `@@aa:8`; its memory is that of `s`. The reserved byte of the advanced-mode frame may be
anything (log 12). -/
def Calls (target : Addr) (u : State) : Effect := fun s n t =>
  (match s.par.mode with
    | .normal =>
      let sp := s.reg32 .er7 - 2#32
      Wrote32 .er7 sp s t ∧ t.draws = u.draws ∧
        StoredW (s.wordAddr (low24 sp)) (some (n.extractLsb' 8 8)) (some (n.extractLsb' 0 8)) u t
    | .advanced =>
      let sp := s.reg32 .er7 - 4#32
      Wrote32 .er7 sp s t ∧ t.draws = u.draws + 1 ∧
        StoredWW (s.wordAddr (low24 sp)) none (some (n.extractLsb' 16 8))
          (s.wordAddr (s.wordAddr (low24 sp) + 2#24)) (some (n.extractLsb' 8 8)) (some (n.extractLsb' 0 8)) u t) ∧
    t.pc = s.pcForm target ∧ t.ccr = s.ccr ∧ SameControl { s with prefetch := u.prefetch } t

/-! ### Effects of the system-control instructions -/

/-- CCR takes a value, and interrupts are not detected at the end of the instruction (R506, R513);
`u` holds the general registers after. -/
def WritesCcr (v : Byte) (u : State) : Effect := fun s n t =>
  t.ccr = v ∧ t.irqInhibit = true ∧ SameRegs u t ∧ t.pc = n ∧ SameMemory s t ∧ t.pstate = s.pstate ∧
    t.prefetch = s.prefetch ∧ t.par = s.par ∧ t.ssby = s.ssby ∧ t.host = s.host

/-- LDC from memory: the byte at the even address of the word read goes to CCR (R515). -/
def LoadsCcr (m : MemOperand) : Effect := fun s n t =>
  let e := s.wordAddr (m.ea 2 s)
  WritesCcr ((s.loadW (m.ea 2 s)).extractLsb' 8 8) (m.step 2 s) s n t ∧ RecordRead e (.readWord e) s t

/-- STC to memory: a word is written with CCR at the even address; the byte at the odd address may be
anything (R525, log 13). -/
def StoresCcr (m : MemOperand) : Effect := fun s n t =>
  StoredW (s.wordAddr (m.ea 2 s)) (some s.ccr) none s t ∧ t.draws = s.draws + 1 ∧ SameRegs (m.step 2 s) t ∧
    t.ccr = s.ccr ∧ t.pc = n ∧ SameControl s t

/-! ### Division and decimal digits -/

/-- Quotient and remainder of an unsigned division (R325): the remainder is in the upper half. -/
def DividesUnsigned {w : Nat} (n : BitVec (w + w)) (d r q : BitVec w) : Prop :=
  q.toNat * d.toNat + r.toNat = n.toNat ∧ r.toNat < d.toNat

/-- Quotient and remainder of a signed division (R328): the remainder is smaller than the divisor and is
zero or has the sign of the dividend. -/
def DividesSigned {w : Nat} (n : BitVec (w + w)) (d r q : BitVec w) : Prop :=
  q.toInt * d.toInt + r.toInt = n.toInt ∧ r.toInt.natAbs < d.toInt.natAbs ∧ (r = 0 ∨ r.msb = n.msb)

/-- A byte of two decimal digits (R81). -/
def IsDecimal (b : Byte) : Prop := b.toNat / 16 ≤ 9 ∧ b.toNat % 16 ≤ 9

/-- The number two decimal digits stand for. -/
def decimalValue (b : Byte) : Nat := b.toNat / 16 * 10 + b.toNat % 16

/-! ### Exceptions -/

/-- The frame of an exception is written, low word first, and SP is 4 lower (R610, R611). -/
def PushedFrame (ret : Addr) (s u : State) : Prop :=
  let sp := s.reg32 .er7 - 4#32
  StoredWW (s.wordAddr (low24 (sp + 2#32))) (some (ret.extractLsb' 8 8)) (some (ret.extractLsb' 0 8))
    (s.wordAddr (low24 sp)) (some s.ccr)
    (some (match s.par.mode with | .normal => s.ccr | .advanced => ret.extractLsb' 16 8)) s u

/-- The instruction reads NEXT before it writes memory, so that it does not run what it writes there (R112). -/
def readsAhead (i : Instr) : Bool := (nextRead i).held || decide (nextRead i = .within)

/-- The exception of a vector number has been entered with a return address (R610): the frame is written,
SP is 4 lower, I is set, UI is set where it is a mask bit, PC is the start address read from the vector
after the frame is written, and nothing else has changed. -/
def Entered (k : Byte) (ret : Addr) (s t : State) : Prop :=
  ∃ u : State, u.par = s.par ∧ u.draws = s.draws ∧ PushedFrame ret s u ∧ SameMemory u t ∧
    Wrote32 .er7 (s.reg32 .er7 - 4#32) s t ∧
    t.flag .i = true ∧ t.flag .ui = (s.par.uiIsMask || s.flag .ui) ∧ SameFlagsBut [.i, .ui] s t ∧
    t.pc = u.pcForm (u.loadPointer (u.vectorAddr k)) ∧
    t.bus = (u.seePointer (u.vectorAddr k)).bus ∧ t.draws = (u.seePointer (u.vectorAddr k)).draws ∧
    t.pstate = .programExecution ∧ t.irqInhibit = s.irqInhibit ∧ t.prefetch = none ∧ t.par = s.par ∧
    t.ssby = s.ssby ∧ t.host = s.host

/-- A frame is popped into CCR and PC (R503, R630). -/
def ReturnsFromException : Effect := fun s _ t =>
  let sp := s.reg32 .er7
  let w0 := s.loadW (low24 sp)
  let w1 := s.loadW (low24 (sp + 2#32))
  Wrote32 .er7 (sp + 4#32) s t ∧ t.ccr = w0.extractLsb' 8 8 ∧
    t.pc = s.pcForm (match s.par.mode with
      | .normal => w1.setWidth 24
      | .advanced => w0.extractLsb' 0 8 ++ w1) ∧
    SameMemory s t ∧ SameControl s t ∧
    ∃ u : State, u.par = s.par ∧
      RecordRead (s.wordAddr (low24 sp)) (.readWord (s.wordAddr (low24 sp))) s u ∧
      RecordRead (s.wordAddr (low24 (sp + 2#32))) (.readWord (s.wordAddr (low24 (sp + 2#32)))) u t

/-- A return address is popped into PC (R480). -/
def ReturnsFromSubroutine : Effect := fun s _ t =>
  let sp := s.reg32 .er7
  Wrote32 .er7 (sp + match s.par.mode with | .normal => 2#32 | .advanced => 4#32) s t ∧
    t.pc = s.pcForm (s.loadPointer (low24 sp)) ∧ t.ccr = s.ccr ∧ SameMemory s t ∧ SameControl s t ∧
    t.bus = (s.seePointer (low24 sp)).bus ∧ t.draws = (s.seePointer (low24 sp)).draws

/-! ### Block transfer -/

/-- Byte-by-byte copying on a map from addresses to bytes: each byte is written before the next is read
(R550). `red` reduces an address. -/
def copied (red : Addr → Addr) (m : Nat → Byte) (src dst : Long) : Nat → Nat → Byte
  | 0 => m
  | n + 1 =>
    copied red
      (fun a => if a = (red (low24 dst)).toNat then m (red (low24 src)).toNat else m a) (src + 1#32) (dst + 1#32) n

/-- A block transfer of `k` bytes has been made from the registers of `s` (R550, R551): ER5 and ER6 are `k`
higher, the bytes outside the destination are as before, and in a space of ordinary memory the destination
holds the bytes copied one by one. -/
def CopiedBlock (k : Nat) (s t : State) : Prop :=
  t.reg32 .er5 = s.reg32 .er5 + BitVec.ofNat 32 k ∧ t.reg32 .er6 = s.reg32 .er6 + BitVec.ofNat 32 k ∧
    (∀ n : ER, n ≠ .er4 → n ≠ .er5 → n ≠ .er6 → t.reg32 n = s.reg32 n) ∧ t.ccr = s.ccr ∧ SameControl s t ∧
    (∀ a : Nat, (∀ j : Nat, j < k → a ≠ (s.red (low24 (s.reg32 .er6 + BitVec.ofNat 32 j))).toNat) →
      t.mem.get a = s.mem.get a) ∧
    (s.AllMemory → SameRecord s t ∧
      ∀ a : Nat, t.mem.get a = copied s.red s.mem.get (s.reg32 .er5) (s.reg32 .er6) k a)

end Sys2Proof.Machine
end

