-- ==== Sys2Proof/Certificates/Slice0/Obligations.lean ====
section
/-! DEFINITION. The statements for the provers. The words they are written in are those of Sys2Proof/Safety.lean. -/

section

open Sys2Proof Sys2Proof.Machine

/-- Right after reset the interrupt mask bit I is 1, the CPU executes the program, interrupt detection is
skipped once, and PC is the start address that vector 0 holds, in the form PC is stored in (R702). -/
def Obligations.ResetState : Prop :=
  State.reset.flag .i = true ∧ State.reset.pstate = .programExecution ∧ State.reset.irqInhibit = true ∧
    State.reset.pc = State.reset.pcForm (State.reset.loadPointer (State.reset.vectorAddr 0))

/-- The state after reset has memory in its canonical form and PC in the form R51 gives a stored PC. The
stored form of PC is the spec's decision D7 and the model's log 17. -/
def Obligations.ResetInvariant : Prop :=
  State.reset.Inv

/-- From every state with memory in canonical form and PC in its stored form (bit 0 clear, and bits 23 to 16
clear in normal mode: R51, decision D7, log 17), every next state of a step has both again. -/
def Obligations.InvariantKept : Prop :=
  ∀ s t : State, s.Inv → Sys2Proof.Machine.step s = .next t → t.Inv

/-- A step leaves MODE, UI_IS_MASK, HAS_ECLOCK, WARM_RESET, MemMap and VEC as they are, and each step uses up
one entry of the host's schedule (log 22). Only the host's write of the platform register changes SSBY:
that is the model's choice (DESIGN CHOICE, log 4), since R650 has software write SSBY through a platform
register that the source does not locate. -/
def Obligations.ParametersFixed : Prop :=
  ∀ s t : State, Sys2Proof.Machine.step s = .next t →
    t.par = s.par ∧ ((∀ b : Bool, s.host.head? ≠ some (.setSsby b)) → t.ssby = s.ssby) ∧ t.host = s.host.tail

/-- Sixteen instruction codes, one or more for each family, written out from the rules of the instructions,
decode to the instructions they stand for. The codes 6C 18 and 01 00 69 90 of the MOV forms in memory
rest on log 31 (PRESUMED): R207 and R221 mark those encodings as from general knowledge, not in the
source (G1). -/
def Obligations.DecodeWords : Prop :=
  decode [0x0C, 0x81] = .ok (.movBReg (.l .er0) (.h .er1)) ∧
    decode [0x7A, 0x07, 0x00, 0xFF, 0xFF, 0x00] = .ok (.movLImm 0x00FFFF00#32 .er7) ∧
    decode [0x6C, 0x18] = .ok (.movBLoadInc .er1 (.l .er0)) ∧
    decode [0x01, 0x00, 0x69, 0x90] = .ok (.movLStoreInd .er0 .er1) ∧
    decode [0x79, 0x10, 0x00, 0x01] = .ok (.addWImm 1#16 (.r .er0)) ∧
    decode [0x1F, 0x08] = .ok (.das (.l .er0)) ∧
    decode [0x01, 0xC0, 0x52, 0x01] = .ok (.mulxsW (.r .er0) .er1) ∧
    decode [0x01, 0xF0, 0x64, 0x21] = .ok (.orLReg .er2 .er1) ∧
    decode [0x12, 0x88] = .ok (.rotlB (.l .er0)) ∧
    decode [0x7E, 0x02, 0x77, 0x50] = .ok (.bldAbs 5#3 2#8) ∧
    decode [0x75, 0x93] = .ok (.bixorReg 1#3 (.h .er3)) ∧
    decode [0x40, 0xFE] = .ok (.braD8 0xFE#8) ∧
    decode [0x5A, 0x12, 0x34, 0x56] = .ok (.jmpAbs 0x123456#24) ∧
    decode [0x57, 0x30] = .ok (.trapa 3#2) ∧
    decode [0x07, 0x80] = .ok (.ldcImm 0x80#8) ∧
    decode [0x7B, 0xD4, 0x59, 0x8F] = .ok (.eepmovW)

/-- For every well-formed instruction with every value of every operand, and whatever bytes follow, decoding
its code gives the instruction. -/
def Obligations.RoundTrip : Prop :=
  ∀ (i : Instr) (rest : List Byte), i.wf = true → decode (encode i ++ rest) = .ok i

/-- Whatever bytes decode to an instruction begin with exactly the code of that instruction, which is well
formed: no bit of a code is ignored (R150). -/
def Obligations.DecodeEncode : Prop :=
  ∀ (bytes : List Byte) (i : Instr), decode bytes = .ok i →
    i.wf = true ∧ encode i = bytes.take i.length

/-- The length of every instruction that decodes is the length R145 computes from the first two bytes, or
from the first four after a prefix 01 00 or 01 40; it is 2, 4, 6, 8 or 10 bytes (R121). -/
def Obligations.LengthFromLeadingBytes : Prop :=
  ∀ (b0 b1 b2 b3 : Byte) (rest : List Byte) (i : Instr), decodeCode b0 b1 (b2 :: b3 :: rest) = some i →
    i.length = lengthOfCode b0 b1 b2 b3 ∧ i.length ∈ [2, 4, 6, 8, 10]

/-- A first byte 00, 02, 03, 10 to 13, 58, 7B or 01 F0 with a second or later field outside its table is no
instruction (R505, R507, R508, R391, R473, R554; for 01 F0 the third byte and bits 7 and 3 of the
register byte: R380, R142), and a step that fetches a code the decoder does not assign is refused with
the bytes it fetched. The refusal is the spec's decision D3 (log 29). -/
def Obligations.UnassignedCodes : Prop :=
  (∀ (b1 : Byte) (t : List Byte), b1 ≠ 0 → decodeCode 0x00 b1 t = none) ∧
    (∀ (b1 : Byte) (t : List Byte), hi b1 ≠ 0 → decodeCode 0x02 b1 t = none ∧ decodeCode 0x03 b1 t = none) ∧
    (∀ (b0 b1 : Byte) (t : List Byte), b0 ∈ [0x10#8, 0x11#8, 0x12#8, 0x13#8] →
      hi b1 ∈ [2#4, 4#4, 5#4, 6#4, 7#4, 10#4, 12#4, 13#4, 14#4, 15#4] ∨
        hi b1 ∈ [3#4, 11#4] ∧ (lo b1).getLsbD 3 = true →
      decodeCode b0 b1 t = none) ∧
    (∀ (b1 : Byte) (t : List Byte), lo b1 ≠ 0 → decodeCode 0x58 b1 t = none) ∧
    (∀ (b1 b2 b3 : Byte) (t : List Byte),
      [b1, b2, b3] ≠ [0x5C#8, 0x59#8, 0x8F#8] → [b1, b2, b3] ≠ [0xD4#8, 0x59#8, 0x8F#8] →
      decodeCode 0x7B b1 (b2 :: b3 :: t) = none) ∧
    (∀ (b2 b3 : Byte) (t : List Byte),
      b2 ∉ [0x64#8, 0x65#8, 0x66#8] ∨ b3.getLsbD 7 = true ∨ b3.getLsbD 3 = true →
      decodeCode 0x01 0xF0 (b2 :: b3 :: t) = none) ∧
    ∀ (s : State) (e : DecodeError), s.pstate = .programExecution → s.respond (s.host.headD .idle) = none →
      decode s.fetchBytes = .error e → Sys2Proof.Machine.step s = .refused (.unassignedCode s.fetchBytes)

/-- In the program execution state, where the host does nothing that stops the CPU, a step whose fetched
bytes decode to a well-formed instruction i is exec of i on the state started: the words of i and, where
Table 2.10 has it before the data cycles, the first word of the next instruction have been read in order
(at a device each is a word read in the transcript), the inhibit is used up, and nothing else has
changed. After exec the first word of what runs next is read if it is not held, the host's entry for the
step is used up and one more draw is counted; a refusal of exec is a refusal of the step. The draw
counter, the schedule and the word read ahead are the model's (logs 6, 11, 20, 22). -/
def Obligations.StepRunsInstruction : Prop :=
  ∀ (s : State) (i : Instr), s.pstate = .programExecution → s.respond (s.host.headD .idle) = none →
    decode s.fetchBytes = .ok i → i.wf = true →
    let u := s.started i
    RecordReads (s.fetchAddresses i) s u ∧
      u = { s with irqInhibit := false, prefetch := u.prefetch, bus := u.bus, draws := u.draws } ∧
      (u.prefetch = none ↔ (nextRead i).held = false) ∧
      (s.AllMemory → (nextRead i).held = true → u.prefetch = some (s.loadW (s.nextPc i))) ∧
      (∀ t : State, Sys2Proof.Machine.exec i u = .next t →
        ∃ v : State, Sys2Proof.Machine.step s = .next { v with host := t.host.tail, draws := v.draws + 1 } ∧
          (t.prefetch ≠ none → v = t) ∧
          (t.prefetch = none → RecordRead (t.wordAddr t.pc) (.readWord (t.wordAddr t.pc)) t v ∧
            v = { t with prefetch := some (t.loadW t.pc), bus := v.bus, draws := v.draws })) ∧
      ∀ r : Refusal, Sys2Proof.Machine.exec i u = .refused r → Sys2Proof.Machine.step s = .refused r

/-- In a space of ordinary memory, with PC in its stored form and no word read ahead but the one that stands
in memory, the ten bytes the decoder is given are the bytes of memory from PC on, the lowest address
first, with addresses reduced to the width of the space. -/
def Obligations.FetchBytesInOrder : Prop :=
  ∀ s : State, s.AllMemory → (s.prefetch = none ∨ s.prefetch = some (s.loadW s.pc)) → s.PcFormed →
    ∀ k : Nat, k < 10 → s.fetchBytes[k]? = some (s.mem.get (s.red (s.pc + BitVec.ofNat 24 k)).toNat)

/-- In a space of ordinary memory, in every step whose host entry leaves the CPU to run an instruction, the
word that the next step runs first is, after every instruction that reads it before its data cycles or
between the read and the write of a memory bit instruction, the word that stood there before the
instruction, and after every other instruction (EEPMOV, jumps, calls, returns, TRAPA) the word that
stands there after it. So MOV.W Rs,@ERd onto the first word of the next instruction changes memory and
not what runs. The spec declares the case outside its model (D16); this model follows the bus sequences
R112 gives (log 20), and for calls R474 (log 21). -/
def Obligations.StoreToNextWordNotSeen : Prop :=
  (∀ (s t : State) (i : Instr), s.AllMemory → s.pstate = .programExecution →
      s.respond (s.host.headD .idle) = none → decode s.fetchBytes = .ok i → Sys2Proof.Machine.step s = .next t →
      t.firstWord = if readsAhead i then s.loadW t.pc else t.loadW t.pc) ∧
    ∀ (s t : State) (rs : R16) (erd : ER), s.AllMemory → s.pstate = .programExecution →
      s.respond (s.host.headD .idle) = none → decode s.fetchBytes = .ok (.movWStoreInd rs erd) → Sys2Proof.Machine.step s = .next t →
      t.pc = s.nextPc (.movWStoreInd rs erd) ∧ t.firstWord = s.loadW t.pc ∧
        (s.wordAddr (low24 (s.reg32 erd)) = t.pc → t.loadW t.pc = s.reg16 rs) ∧
        (s.wordAddr (low24 (s.reg32 erd)) ≠ t.pc → t.loadW t.pc = s.loadW t.pc)

/-- exec answers a next state for every instruction, all operands and all states; MOVFPE and MOVTPE are
refused, by name, exactly where HAS_ECLOCK is false (R230, R231, decision D13, log 3). No instruction
faults (R603). -/
def Obligations.EveryInstructionCompletes : Prop :=
  (∀ (i : Instr) (s : State),
      (∀ (aa : BitVec 16) (r : R8), i ≠ .movfpe aa r ∧ i ≠ .movtpe r aa) ∨ s.par.hasEclock = true →
      ∃ t, Sys2Proof.Machine.exec i s = .next t) ∧
    ∀ (aa : BitVec 16) (r : R8) (s : State), s.par.hasEclock = false →
      Sys2Proof.Machine.exec (.movfpe aa r) s = .refused .noEClock ∧
        Sys2Proof.Machine.exec (.movtpe r aa) s = .refused .noEClock

/-- In a space of ordinary memory a word is the byte at its even address and the byte after it, a longword
two words, the more significant first; what is stored is read back, and a store leaves every byte outside
it alone. -/
def Obligations.MemoryAccess : Prop :=
  ∀ (s : State) (a : Addr), s.AllMemory →
    let e := s.wordAddr a
    let e2 := s.wordAddr (e + 2#24)
    s.loadB a = s.mem.get (s.red a).toNat ∧
      s.loadW a = s.mem.get e.toNat ++ s.mem.get (s.red (e + 1#24)).toNat ∧
      s.loadL a = s.loadW e ++ s.loadW e2 ∧
      (∀ v : Byte, (s.storeB a v).loadB a = v ∧
        ∀ x : Nat, x ≠ (s.red a).toNat → (s.storeB a v).mem.get x = s.mem.get x) ∧
      (∀ v : Word, (s.storeW a v).loadW a = v ∧ (s.storeW a v).loadB e = v.extractLsb' 8 8 ∧
        ∀ x : Nat, x ≠ e.toNat → x ≠ (s.red (e + 1#24)).toNat → (s.storeW a v).mem.get x = s.mem.get x) ∧
      ∀ v : Long, (s.storeL a v).loadL a = v ∧ (s.storeL a v).loadW e2 = v.extractLsb' 0 16 ∧
        ∀ x : Nat, x ≠ e.toNat → x ≠ (s.red (e + 1#24)).toNat → x ≠ e2.toNat →
          x ≠ (s.red (e2 + 1#24)).toNat → (s.storeL a v).mem.get x = s.mem.get x

/-- The addresses of R92 to R99, with the address register stepped by the operand size in 32-bit arithmetic
for @ERn+ and @-ERn and left alone in the other forms. -/
def Obligations.EffectiveAddresses : Prop :=
  ∀ (s : State) (n : ER) (k : Nat) (d16 a16 : BitVec 16) (d24 a24 : BitVec 24) (a8 : BitVec 8),
    (MemOperand.ind n).ea k s = (s.reg32 n).setWidth 24 ∧
      (MemOperand.disp16 d16 n).ea k s = (s.reg32 n + d16.signExtend 32).setWidth 24 ∧
      (MemOperand.disp24 d24 n).ea k s = (s.reg32 n + d24.signExtend 32).setWidth 24 ∧
      (MemOperand.inc n).ea k s = (s.reg32 n).setWidth 24 ∧
      (MemOperand.dec n).ea k s = (s.reg32 n - BitVec.ofNat 32 k).setWidth 24 ∧
      (MemOperand.abs8 a8).ea k s = 0xFFFF#16 ++ a8 ∧
      (MemOperand.abs16 a16).ea k s = a16.signExtend 24 ∧
      (MemOperand.abs24 a24).ea k s = a24 ∧
      ((MemOperand.inc n).step k s).reg32 n = s.reg32 n + BitVec.ofNat 32 k ∧
      ((MemOperand.dec n).step k s).reg32 n = s.reg32 n - BitVec.ofNat 32 k ∧
      (∀ m : ER, m ≠ n → ((MemOperand.inc n).step k s).reg32 m = s.reg32 m ∧
        ((MemOperand.dec n).step k s).reg32 m = s.reg32 m) ∧
      (MemOperand.ind n).step k s = s ∧ (MemOperand.disp16 d16 n).step k s = s ∧
      (MemOperand.disp24 d24 n).step k s = s ∧ (MemOperand.abs8 a8).step k s = s ∧
      (MemOperand.abs16 a16).step k s = s ∧ (MemOperand.abs24 a24).step k s = s

/-- MOV.B, MOV.W and MOV.L of a register or an immediate: the destination holds the value, N and Z come from
it, V is cleared, and every other register, flag, byte of memory and control state is as before. -/
def Obligations.MovRegisterImmediate : Prop :=
  ∀ s : State,
    (∀ rs rd, Runs (.movBReg rs rd) s (Moves Wrote8 rd (s.reg8 rs))) ∧
      (∀ rs rd, Runs (.movWReg rs rd) s (Moves Wrote16 rd (s.reg16 rs))) ∧
      (∀ ers erd, Runs (.movLReg ers erd) s (Moves Wrote32 erd (s.reg32 ers))) ∧
      (∀ imm rd, Runs (.movBImm imm rd) s (Moves Wrote8 rd imm)) ∧
      (∀ imm rd, Runs (.movWImm imm rd) s (Moves Wrote16 rd imm)) ∧
      ∀ imm erd, Runs (.movLImm imm erd) s (Moves Wrote32 erd imm)

/-- MOV.B from memory in its seven forms, and MOVFPE where there is an E clock: the byte at the effective
address goes to the register after the address register is stepped (so that a post-increment load into a
part of its own address register leaves the loaded byte there: the spec's decision D9, log 19), with the
flags of a transfer; memory is as before and the read is recorded if a device answers. -/
def Obligations.LoadByte : Prop :=
  ∀ s : State,
    (∀ ers rd, Runs (.movBLoadInd ers rd) s (LoadsB (.ind ers) rd)) ∧
      (∀ d ers rd, Runs (.movBLoadDisp16 d ers rd) s (LoadsB (.disp16 d ers) rd)) ∧
      (∀ d ers rd, Runs (.movBLoadDisp24 d ers rd) s (LoadsB (.disp24 d ers) rd)) ∧
      (∀ ers rd, Runs (.movBLoadInc ers rd) s (LoadsB (.inc ers) rd)) ∧
      (∀ aa rd, Runs (.movBLoadAbs8 aa rd) s (LoadsB (.abs8 aa) rd)) ∧
      (∀ aa rd, Runs (.movBLoadAbs16 aa rd) s (LoadsB (.abs16 aa) rd)) ∧
      (∀ aa rd, Runs (.movBLoadAbs24 aa rd) s (LoadsB (.abs24 aa) rd)) ∧
      ∀ aa rd, s.par.hasEclock = true → Runs (.movfpe aa rd) s (LoadsB (.abs16 aa) rd)

/-- MOV.W from memory in its six forms and POP.W, which is MOV.W @ER7+: as for bytes, with one word read at
the even address (decision D9, log 19). -/
def Obligations.LoadWord : Prop :=
  ∀ s : State,
    (∀ ers rd, Runs (.movWLoadInd ers rd) s (LoadsW (.ind ers) rd)) ∧
      (∀ d ers rd, Runs (.movWLoadDisp16 d ers rd) s (LoadsW (.disp16 d ers) rd)) ∧
      (∀ d ers rd, Runs (.movWLoadDisp24 d ers rd) s (LoadsW (.disp24 d ers) rd)) ∧
      (∀ ers rd, Runs (.movWLoadInc ers rd) s (LoadsW (.inc ers) rd)) ∧
      (∀ aa rd, Runs (.movWLoadAbs16 aa rd) s (LoadsW (.abs16 aa) rd)) ∧
      (∀ aa rd, Runs (.movWLoadAbs24 aa rd) s (LoadsW (.abs24 aa) rd)) ∧
      ∀ rn, Runs (.popW rn) s (LoadsW (.inc .er7) rn)

/-- MOV.L from memory in its six forms and POP.L, which is MOV.L @ER7+: as for bytes, with two word reads,
the upper word first (decision D9, log 19). -/
def Obligations.LoadLong : Prop :=
  ∀ s : State,
    (∀ ers erd, Runs (.movLLoadInd ers erd) s (LoadsL (.ind ers) erd)) ∧
      (∀ d ers erd, Runs (.movLLoadDisp16 d ers erd) s (LoadsL (.disp16 d ers) erd)) ∧
      (∀ d ers erd, Runs (.movLLoadDisp24 d ers erd) s (LoadsL (.disp24 d ers) erd)) ∧
      (∀ ers erd, Runs (.movLLoadInc ers erd) s (LoadsL (.inc ers) erd)) ∧
      (∀ aa erd, Runs (.movLLoadAbs16 aa erd) s (LoadsL (.abs16 aa) erd)) ∧
      (∀ aa erd, Runs (.movLLoadAbs24 aa erd) s (LoadsL (.abs24 aa) erd)) ∧
      ∀ ern, Runs (.popL ern) s (LoadsL (.inc .er7) ern)

/-- MOV.B to memory in its seven forms, and MOVTPE where there is an E clock: the byte at the reduced
effective address is the register as it is after the address register is stepped; every other byte of
memory and every other register is as before; flags of a transfer. -/
def Obligations.StoreByte : Prop :=
  ∀ s : State,
    (∀ rs erd, Runs (.movBStoreInd rs erd) s (StoresB (.ind erd) rs)) ∧
      (∀ rs d erd, Runs (.movBStoreDisp16 rs d erd) s (StoresB (.disp16 d erd) rs)) ∧
      (∀ rs d erd, Runs (.movBStoreDisp24 rs d erd) s (StoresB (.disp24 d erd) rs)) ∧
      (∀ rs erd, Runs (.movBStoreDec rs erd) s (StoresB (.dec erd) rs)) ∧
      (∀ rs aa, Runs (.movBStoreAbs8 rs aa) s (StoresB (.abs8 aa) rs)) ∧
      (∀ rs aa, Runs (.movBStoreAbs16 rs aa) s (StoresB (.abs16 aa) rs)) ∧
      (∀ rs aa, Runs (.movBStoreAbs24 rs aa) s (StoresB (.abs24 aa) rs)) ∧
      ∀ rs aa, s.par.hasEclock = true → Runs (.movtpe rs aa) s (StoresB (.abs16 aa) rs)

/-- MOV.W to memory in its six forms and PUSH.W, which is MOV.W @-ER7: two bytes at the even address, the
upper first; the source is read after the address register is stepped. -/
def Obligations.StoreWord : Prop :=
  ∀ s : State,
    (∀ rs erd, Runs (.movWStoreInd rs erd) s (StoresW (.ind erd) rs)) ∧
      (∀ rs d erd, Runs (.movWStoreDisp16 rs d erd) s (StoresW (.disp16 d erd) rs)) ∧
      (∀ rs d erd, Runs (.movWStoreDisp24 rs d erd) s (StoresW (.disp24 d erd) rs)) ∧
      (∀ rs erd, Runs (.movWStoreDec rs erd) s (StoresW (.dec erd) rs)) ∧
      (∀ rs aa, Runs (.movWStoreAbs16 rs aa) s (StoresW (.abs16 aa) rs)) ∧
      (∀ rs aa, Runs (.movWStoreAbs24 rs aa) s (StoresW (.abs24 aa) rs)) ∧
      ∀ rn, Runs (.pushW rn) s (StoresW (.dec .er7) rn)

/-- MOV.L to memory in its six forms and PUSH.L, which is MOV.L @-ER7: two word writes, at the even effective
address and two bytes further, in this order. For PUSH.L the order, which a device sees, is a choice: R86
prints the lower word first, R228 takes the order of MOV.L (conflict C13, log 37, DEDUCED). -/
def Obligations.StoreLong : Prop :=
  ∀ s : State,
    (∀ ers erd, Runs (.movLStoreInd ers erd) s (StoresL (.ind erd) ers)) ∧
      (∀ ers d erd, Runs (.movLStoreDisp16 ers d erd) s (StoresL (.disp16 d erd) ers)) ∧
      (∀ ers d erd, Runs (.movLStoreDisp24 ers d erd) s (StoresL (.disp24 d erd) ers)) ∧
      (∀ ers erd, Runs (.movLStoreDec ers erd) s (StoresL (.dec erd) ers)) ∧
      (∀ ers aa, Runs (.movLStoreAbs16 ers aa) s (StoresL (.abs16 aa) ers)) ∧
      (∀ ers aa, Runs (.movLStoreAbs24 ers aa) s (StoresL (.abs24 aa) ers)) ∧
      ∀ ern, Runs (.pushL ern) s (StoresL (.dec .er7) ern)

/-- ADD of every size and form: the destination is the sum; H and C are the carries out of bits 3 and 7, 11
and 15, 27 and 31; N is the sign and Z says zero; V says that the signed sum does not fit; nothing else
changes. -/
def Obligations.AddResult : Prop :=
  ∀ s : State,
    (∀ imm rd, Runs (.addBImm imm rd) s (Adds Wrote8 rd (s.reg8 rd) imm false isZero)) ∧
      (∀ rs rd, Runs (.addBReg rs rd) s (Adds Wrote8 rd (s.reg8 rd) (s.reg8 rs) false isZero)) ∧
      (∀ imm rd, Runs (.addWImm imm rd) s (Adds Wrote16 rd (s.reg16 rd) imm false isZero)) ∧
      (∀ rs rd, Runs (.addWReg rs rd) s (Adds Wrote16 rd (s.reg16 rd) (s.reg16 rs) false isZero)) ∧
      (∀ imm erd, Runs (.addLImm imm erd) s (Adds Wrote32 erd (s.reg32 erd) imm false isZero)) ∧
      ∀ ers erd, Runs (.addLReg ers erd) s (Adds Wrote32 erd (s.reg32 erd) (s.reg32 ers) false isZero)

/-- SUB of every size and form: the destination is the difference; H and C are the borrows at bits 3 and 7,
11 and 15, 27 and 31; N is the sign and Z says zero; V says that the signed difference does not fit;
nothing else changes. -/
def Obligations.SubResult : Prop :=
  ∀ s : State,
    (∀ rs rd, Runs (.subBReg rs rd) s (Subtracts Wrote8 rd (s.reg8 rd) (s.reg8 rs) false isZero)) ∧
      (∀ imm rd, Runs (.subWImm imm rd) s (Subtracts Wrote16 rd (s.reg16 rd) imm false isZero)) ∧
      (∀ rs rd, Runs (.subWReg rs rd) s (Subtracts Wrote16 rd (s.reg16 rd) (s.reg16 rs) false isZero)) ∧
      (∀ imm erd, Runs (.subLImm imm erd) s (Subtracts Wrote32 erd (s.reg32 erd) imm false isZero)) ∧
      ∀ ers erd, Runs (.subLReg ers erd) s (Subtracts Wrote32 erd (s.reg32 erd) (s.reg32 ers) false isZero)

/-- ADDX and SUBX take C in as carry or borrow and set the flags as ADD and SUB do, except that Z is kept
when the result is zero and cleared otherwise. -/
def Obligations.AddxSubx : Prop :=
  ∀ s : State,
    (∀ imm rd, Runs (.addxImm imm rd) s (Adds Wrote8 rd (s.reg8 rd) imm (s.flag .c) (keepsZero (s.flag .z)))) ∧
      (∀ rs rd, Runs (.addxReg rs rd) s
        (Adds Wrote8 rd (s.reg8 rd) (s.reg8 rs) (s.flag .c) (keepsZero (s.flag .z)))) ∧
      (∀ imm rd, Runs (.subxImm imm rd) s
        (Subtracts Wrote8 rd (s.reg8 rd) imm (s.flag .c) (keepsZero (s.flag .z)))) ∧
      ∀ rs rd, Runs (.subxReg rs rd) s
        (Subtracts Wrote8 rd (s.reg8 rd) (s.reg8 rs) (s.flag .c) (keepsZero (s.flag .z)))

/-- ADDS and SUBS add and subtract 1, 2 or 4 on 32 bits, modulo 2^32, and change no bit of CCR. -/
def Obligations.AddsSubs : Prop :=
  ∀ (s : State) (erd : ER),
    Runs (.adds1 erd) s (Gives Wrote32 erd (s.reg32 erd + 1#32) SameCcr) ∧
      Runs (.adds2 erd) s (Gives Wrote32 erd (s.reg32 erd + 2#32) SameCcr) ∧
      Runs (.adds4 erd) s (Gives Wrote32 erd (s.reg32 erd + 4#32) SameCcr) ∧
      Runs (.subs1 erd) s (Gives Wrote32 erd (s.reg32 erd - 1#32) SameCcr) ∧
      Runs (.subs2 erd) s (Gives Wrote32 erd (s.reg32 erd - 2#32) SameCcr) ∧
      Runs (.subs4 erd) s (Gives Wrote32 erd (s.reg32 erd - 4#32) SameCcr)

/-- INC and DEC by 1 (byte) or by 1 or 2 (word, longword): N and Z come from the result, V says that the
signed result does not fit; H, C and the other bits of CCR are kept. -/
def Obligations.IncDec : Prop :=
  ∀ s : State,
    (∀ rd, Runs (.incB rd) s
        (Counts Wrote8 rd (s.reg8 rd + 1#8) ((s.reg8 rd).toInt + 1))) ∧
      (∀ rd, Runs (.incW1 rd) s
        (Counts Wrote16 rd (s.reg16 rd + 1#16) ((s.reg16 rd).toInt + 1))) ∧
      (∀ rd, Runs (.incW2 rd) s
        (Counts Wrote16 rd (s.reg16 rd + 2#16) ((s.reg16 rd).toInt + 2))) ∧
      (∀ erd, Runs (.incL1 erd) s
        (Counts Wrote32 erd (s.reg32 erd + 1#32) ((s.reg32 erd).toInt + 1))) ∧
      (∀ erd, Runs (.incL2 erd) s
        (Counts Wrote32 erd (s.reg32 erd + 2#32) ((s.reg32 erd).toInt + 2))) ∧
      (∀ rd, Runs (.decB rd) s
        (Counts Wrote8 rd (s.reg8 rd - 1#8) ((s.reg8 rd).toInt - 1))) ∧
      (∀ rd, Runs (.decW1 rd) s
        (Counts Wrote16 rd (s.reg16 rd - 1#16) ((s.reg16 rd).toInt - 1))) ∧
      (∀ rd, Runs (.decW2 rd) s
        (Counts Wrote16 rd (s.reg16 rd - 2#16) ((s.reg16 rd).toInt - 2))) ∧
      (∀ erd, Runs (.decL1 erd) s
        (Counts Wrote32 erd (s.reg32 erd - 1#32) ((s.reg32 erd).toInt - 1))) ∧
      ∀ erd, Runs (.decL2 erd) s
        (Counts Wrote32 erd (s.reg32 erd - 2#32) ((s.reg32 erd).toInt - 2))

/-- For every combination of C, H and digits that a row of the tables covers (the C = 1 rows of DAA extended
to upper digit 0 as the spec's decision D20 has it, log 16), the row's value is added, N and Z come from
the result, C is the row's, and H and V may be anything; one free value is drawn (log 11). -/
def Obligations.DecimalTables : Prop :=
  ∀ (s : State) (rd : R8) (added : Byte) (carry : Bool),
    let u := (s.reg8 rd).toNat / 16
    let l := (s.reg8 rd).toNat % 16
    let effect : Effect := fun s n t =>
      Wrote8 rd (s.reg8 rd + added) s t ∧ t.flag .n = (s.reg8 rd + added).msb ∧
        t.flag .z = isZero (s.reg8 rd + added) ∧ t.flag .c = carry ∧ SameFlagsBut [.h, .n, .z, .v, .c] s t ∧
        t.pc = n ∧ SameMemory s t ∧ SameControl s t ∧ t.bus = s.bus ∧ t.draws = s.draws + 1
    ((s.flag .c = false ∧ u ≤ 9 ∧ s.flag .h = false ∧ l ≤ 9 ∧ added = 0x00#8 ∧ carry = false ∨
          s.flag .c = false ∧ u ≤ 8 ∧ s.flag .h = false ∧ 10 ≤ l ∧ added = 0x06#8 ∧ carry = false ∨
          s.flag .c = false ∧ u ≤ 9 ∧ s.flag .h = true ∧ l ≤ 3 ∧ added = 0x06#8 ∧ carry = false ∨
          s.flag .c = false ∧ 10 ≤ u ∧ s.flag .h = false ∧ l ≤ 9 ∧ added = 0x60#8 ∧ carry = true ∨
          s.flag .c = false ∧ 9 ≤ u ∧ s.flag .h = false ∧ 10 ≤ l ∧ added = 0x66#8 ∧ carry = true ∨
          s.flag .c = false ∧ 10 ≤ u ∧ s.flag .h = true ∧ l ≤ 3 ∧ added = 0x66#8 ∧ carry = true ∨
          s.flag .c = true ∧ u ≤ 2 ∧ s.flag .h = false ∧ l ≤ 9 ∧ added = 0x60#8 ∧ carry = true ∨
          s.flag .c = true ∧ u ≤ 2 ∧ s.flag .h = false ∧ 10 ≤ l ∧ added = 0x66#8 ∧ carry = true ∨
          s.flag .c = true ∧ u ≤ 3 ∧ s.flag .h = true ∧ l ≤ 3 ∧ added = 0x66#8 ∧ carry = true) →
        Runs (.daa rd) s effect) ∧
      ((s.flag .c = false ∧ u ≤ 9 ∧ s.flag .h = false ∧ l ≤ 9 ∧ added = 0x00#8 ∧ carry = false ∨
          s.flag .c = false ∧ u ≤ 8 ∧ s.flag .h = true ∧ 6 ≤ l ∧ added = 0xFA#8 ∧ carry = false ∨
          s.flag .c = true ∧ 7 ≤ u ∧ s.flag .h = false ∧ l ≤ 9 ∧ added = 0xA0#8 ∧ carry = true ∨
          s.flag .c = true ∧ 6 ≤ u ∧ s.flag .h = true ∧ 6 ≤ l ∧ added = 0x9A#8 ∧ carry = true) →
        Runs (.das rd) s effect)

/-- Inside or outside their tables DAA and DAS complete: at most the destination register and H, N, Z, V, C
change, and one free value is drawn; outside the tables the spec leaves all of these open (logs 11, 15). -/
def Obligations.DecimalAdjustFrame : Prop :=
  ∀ (s : State) (rd : R8),
    let effect : Effect := fun s n t =>
      (∃ v : Byte, Wrote8 rd v s t) ∧ SameFlagsBut [.h, .n, .z, .v, .c] s t ∧ t.pc = n ∧ SameMemory s t ∧
        SameControl s t ∧ t.bus = s.bus ∧ t.draws = s.draws + 1
    Runs (.daa rd) s effect ∧ Runs (.das rd) s effect

/-- After ADD.B or ADDX of bytes of decimal digits, from a register or immediate, DAA leaves the digits of
the decimal sum modulo 100 and its carry in C; after SUB.B or SUBX, DAS leaves the digits of the decimal
difference modulo 100 and its borrow in C, and after NEG.B those of 0 less the byte. The C = 1 rows of
DAA's table are taken with the spec's extension to upper digit 0 (D20, log 16). -/
def Obligations.DecimalArithmetic : Prop :=
  ∀ (s : State) (rd : R8), IsDecimal (s.reg8 rd) →
    let a := decimalValue (s.reg8 rd)
    let c := (s.flag .c).toNat
    (∀ rs : R8, IsDecimal (s.reg8 rs) →
        let b := decimalValue (s.reg8 rs)
        (∃ t u, Sys2Proof.Machine.exec (.addBReg rs rd) s = .next t ∧ Sys2Proof.Machine.exec (.daa rd) t = .next u ∧
          IsDecimal (u.reg8 rd) ∧ decimalValue (u.reg8 rd) + 100 * (u.flag .c).toNat = a + b) ∧
        (∃ t u, Sys2Proof.Machine.exec (.addxReg rs rd) s = .next t ∧ Sys2Proof.Machine.exec (.daa rd) t = .next u ∧
          IsDecimal (u.reg8 rd) ∧ decimalValue (u.reg8 rd) + 100 * (u.flag .c).toNat = a + b + c) ∧
        (∃ t u, Sys2Proof.Machine.exec (.subBReg rs rd) s = .next t ∧ Sys2Proof.Machine.exec (.das rd) t = .next u ∧
          IsDecimal (u.reg8 rd) ∧ decimalValue (u.reg8 rd) + b = a + 100 * (u.flag .c).toNat) ∧
        ∃ t u, Sys2Proof.Machine.exec (.subxReg rs rd) s = .next t ∧ Sys2Proof.Machine.exec (.das rd) t = .next u ∧
          IsDecimal (u.reg8 rd) ∧ decimalValue (u.reg8 rd) + b + c = a + 100 * (u.flag .c).toNat) ∧
      (∀ imm : BitVec 8, IsDecimal imm →
        let b := decimalValue imm
        (∃ t u, Sys2Proof.Machine.exec (.addBImm imm rd) s = .next t ∧ Sys2Proof.Machine.exec (.daa rd) t = .next u ∧
          IsDecimal (u.reg8 rd) ∧ decimalValue (u.reg8 rd) + 100 * (u.flag .c).toNat = a + b) ∧
        (∃ t u, Sys2Proof.Machine.exec (.addxImm imm rd) s = .next t ∧ Sys2Proof.Machine.exec (.daa rd) t = .next u ∧
          IsDecimal (u.reg8 rd) ∧ decimalValue (u.reg8 rd) + 100 * (u.flag .c).toNat = a + b + c) ∧
        ∃ t u, Sys2Proof.Machine.exec (.subxImm imm rd) s = .next t ∧ Sys2Proof.Machine.exec (.das rd) t = .next u ∧
          IsDecimal (u.reg8 rd) ∧ decimalValue (u.reg8 rd) + b + c = a + 100 * (u.flag .c).toNat) ∧
      ∃ t u, Sys2Proof.Machine.exec (.negB rd) s = .next t ∧ Sys2Proof.Machine.exec (.das rd) t = .next u ∧
        IsDecimal (u.reg8 rd) ∧ decimalValue (u.reg8 rd) + a = 100 * (u.flag .c).toNat

/-- The lower half of the destination times the source fills the whole destination: unsigned without a flag
change, signed with N and Z from the product. -/
def Obligations.MultiplyResults : Prop :=
  ∀ s : State,
    (∀ rs rd, Runs (.mulxuB rs rd) s
        (Gives Wrote16 rd (BitVec.ofNat 16 ((s.reg16 rd).toNat % 256 * (s.reg8 rs).toNat)) SameCcr)) ∧
      (∀ rs erd, Runs (.mulxuW rs erd) s
        (Gives Wrote32 erd (BitVec.ofNat 32 ((s.reg32 erd).toNat % 65536 * (s.reg16 rs).toNat)) SameCcr)) ∧
      (∀ rs rd,
        let p := BitVec.ofInt 16 (((s.reg16 rd).setWidth 8).toInt * (s.reg8 rs).toInt)
        Runs (.mulxsB rs rd) s (Gives Wrote16 rd p (NZFlags p.msb (isZero p)))) ∧
      ∀ rs erd,
        let p := BitVec.ofInt 32 (((s.reg32 erd).setWidth 16).toInt * (s.reg16 rs).toInt)
        Runs (.mulxsW rs erd) s (Gives Wrote32 erd p (NZFlags p.msb (isZero p)))

/-- With a divisor other than zero and a quotient that fits, the destination holds remainder and quotient:
dividend = quotient * divisor + remainder, the remainder smaller than the divisor and, for DIVXS, zero or
of the sign of the dividend. N and Z come from the operands: for DIVXU N is the sign bit of the divisor
and for DIVXS it says that the signs differ; Z says that the divisor is zero. -/
def Obligations.DivideResults : Prop :=
  ∀ s : State,
    (∀ rs rd, (s.reg8 rs).toNat ≠ 0 → (s.reg16 rd).toNat / (s.reg8 rs).toNat < 2 ^ 8 →
        ∃ r q, DividesUnsigned (s.reg16 rd) (s.reg8 rs) r q ∧
          Runs (.divxuB rs rd) s (Gives Wrote16 rd (r ++ q) (NZFlags (s.reg8 rs).msb false))) ∧
      (∀ rs erd, (s.reg16 rs).toNat ≠ 0 → (s.reg32 erd).toNat / (s.reg16 rs).toNat < 2 ^ 16 →
        ∃ r q, DividesUnsigned (s.reg32 erd) (s.reg16 rs) r q ∧
          Runs (.divxuW rs erd) s (Gives Wrote32 erd (r ++ q) (NZFlags (s.reg16 rs).msb false))) ∧
      (∀ rs rd, (s.reg8 rs).toInt ≠ 0 → -2 ^ 7 ≤ (s.reg16 rd).toInt.tdiv (s.reg8 rs).toInt →
        (s.reg16 rd).toInt.tdiv (s.reg8 rs).toInt < 2 ^ 7 →
        ∃ r q, DividesSigned (s.reg16 rd) (s.reg8 rs) r q ∧
          Runs (.divxsB rs rd) s
            (Gives Wrote16 rd (r ++ q) (NZFlags (decide ((s.reg16 rd).msb ≠ (s.reg8 rs).msb)) false))) ∧
      ∀ rs erd, (s.reg16 rs).toInt ≠ 0 → -2 ^ 15 ≤ (s.reg32 erd).toInt.tdiv (s.reg16 rs).toInt →
        (s.reg32 erd).toInt.tdiv (s.reg16 rs).toInt < 2 ^ 15 →
        ∃ r q, DividesSigned (s.reg32 erd) (s.reg16 rs) r q ∧
          Runs (.divxsW rs erd) s
            (Gives Wrote32 erd (r ++ q) (NZFlags (decide ((s.reg32 erd).msb ≠ (s.reg16 rs).msb)) false))

/-- With a zero divisor or an overflowing quotient too, the division completes: the destination register
holds some value, N and Z come from the operands as always, and no other register, flag or byte of memory
changes. The value of the destination in those cases is free (D11, log 14). -/
def Obligations.DivideFrame : Prop :=
  ∀ s : State,
    (∀ rs rd, Runs (.divxuB rs rd) s fun s n t =>
        (∃ v, Wrote16 rd v s t) ∧ NZFlags (s.reg8 rs).msb (isZero (s.reg8 rs)) s t ∧ t.pc = n ∧
          SameMemory s t ∧ SameControl s t ∧ t.bus = s.bus) ∧
      (∀ rs erd, Runs (.divxuW rs erd) s fun s n t =>
        (∃ v, Wrote32 erd v s t) ∧ NZFlags (s.reg16 rs).msb (isZero (s.reg16 rs)) s t ∧ t.pc = n ∧
          SameMemory s t ∧ SameControl s t ∧ t.bus = s.bus) ∧
      (∀ rs rd, Runs (.divxsB rs rd) s fun s n t =>
        (∃ v, Wrote16 rd v s t) ∧
          NZFlags (decide ((s.reg16 rd).msb ≠ (s.reg8 rs).msb)) (isZero (s.reg8 rs)) s t ∧ t.pc = n ∧
          SameMemory s t ∧ SameControl s t ∧ t.bus = s.bus) ∧
      ∀ rs erd, Runs (.divxsW rs erd) s fun s n t =>
        (∃ v, Wrote32 erd v s t) ∧
          NZFlags (decide ((s.reg32 erd).msb ≠ (s.reg16 rs).msb)) (isZero (s.reg16 rs)) s t ∧ t.pc = n ∧
          SameMemory s t ∧ SameControl s t ∧ t.bus = s.bus

/-- CMP of every size and form sets the five flags as a subtraction does and changes no register and no byte
of memory. -/
def Obligations.CompareSetsFlags : Prop :=
  ∀ s : State,
    (∀ imm rd, Runs (.cmpBImm imm rd) s (Compares (s.reg8 rd) imm)) ∧
      (∀ rs rd, Runs (.cmpBReg rs rd) s (Compares (s.reg8 rd) (s.reg8 rs))) ∧
      (∀ imm rd, Runs (.cmpWImm imm rd) s (Compares (s.reg16 rd) imm)) ∧
      (∀ rs rd, Runs (.cmpWReg rs rd) s (Compares (s.reg16 rd) (s.reg16 rs))) ∧
      (∀ imm erd, Runs (.cmpLImm imm erd) s (Compares (s.reg32 erd) imm)) ∧
      ∀ ers erd, Runs (.cmpLReg ers erd) s (Compares (s.reg32 erd) (s.reg32 ers))

/-- NEG replaces the register by its two's complement; H says that bits 3 to 0 (11 to 0, 27 to 0) are not all
zero, V that the operand is the most negative number, C that it is not zero. -/
def Obligations.NegateResults : Prop :=
  ∀ s : State,
    (∀ rd, Runs (.negB rd) s (Gives Wrote8 rd (-s.reg8 rd) fun s t =>
        t.flag .h = decide ((s.reg8 rd).toNat % 2 ^ 4 ≠ 0) ∧ t.flag .n = (-s.reg8 rd).msb ∧
          t.flag .z = isZero (s.reg8 rd) ∧ t.flag .v = decide (s.reg8 rd = 0x80#8) ∧
          t.flag .c = decide (s.reg8 rd ≠ 0) ∧ SameFlagsBut [.h, .n, .z, .v, .c] s t)) ∧
      (∀ rd, Runs (.negW rd) s (Gives Wrote16 rd (-s.reg16 rd) fun s t =>
        t.flag .h = decide ((s.reg16 rd).toNat % 2 ^ 12 ≠ 0) ∧ t.flag .n = (-s.reg16 rd).msb ∧
          t.flag .z = isZero (s.reg16 rd) ∧ t.flag .v = decide (s.reg16 rd = 0x8000#16) ∧
          t.flag .c = decide (s.reg16 rd ≠ 0) ∧ SameFlagsBut [.h, .n, .z, .v, .c] s t)) ∧
      ∀ erd, Runs (.negL erd) s (Gives Wrote32 erd (-s.reg32 erd) fun s t =>
        t.flag .h = decide ((s.reg32 erd).toNat % 2 ^ 28 ≠ 0) ∧ t.flag .n = (-s.reg32 erd).msb ∧
          t.flag .z = isZero (s.reg32 erd) ∧ t.flag .v = decide (s.reg32 erd = 0x80000000#32) ∧
          t.flag .c = decide (s.reg32 erd ≠ 0) ∧ SameFlagsBut [.h, .n, .z, .v, .c] s t)

/-- EXTS copies the sign of the lower half of the register into its upper half and EXTU clears the upper
half; N and Z come from the result and V is cleared. -/
def Obligations.ExtendResults : Prop :=
  ∀ s : State,
    (∀ rd, Runs (.extsW rd) s (Moves Wrote16 rd (BitVec.ofInt 16 ((s.reg16 rd).setWidth 8).toInt))) ∧
      (∀ erd, Runs (.extsL erd) s (Moves Wrote32 erd (BitVec.ofInt 32 ((s.reg32 erd).setWidth 16).toInt))) ∧
      (∀ rd, Runs (.extuW rd) s (Moves Wrote16 rd (BitVec.ofNat 16 ((s.reg16 rd).toNat % 256)))) ∧
      ∀ erd, Runs (.extuL erd) s (Moves Wrote32 erd (BitVec.ofNat 32 ((s.reg32 erd).toNat % 65536)))

/-- The destination is the logical function of the operands; N and Z come from it, V is cleared, H, C, I, UI
and U are kept, and nothing else changes. -/
def Obligations.LogicResults : Prop :=
  ∀ s : State,
    (∀ imm rd, Runs (.andBImm imm rd) s (Moves Wrote8 rd (s.reg8 rd &&& imm))) ∧
      (∀ rs rd, Runs (.andBReg rs rd) s (Moves Wrote8 rd (s.reg8 rd &&& s.reg8 rs))) ∧
      (∀ imm rd, Runs (.andWImm imm rd) s (Moves Wrote16 rd (s.reg16 rd &&& imm))) ∧
      (∀ rs rd, Runs (.andWReg rs rd) s (Moves Wrote16 rd (s.reg16 rd &&& s.reg16 rs))) ∧
      (∀ imm erd, Runs (.andLImm imm erd) s (Moves Wrote32 erd (s.reg32 erd &&& imm))) ∧
      (∀ ers erd, Runs (.andLReg ers erd) s (Moves Wrote32 erd (s.reg32 erd &&& s.reg32 ers))) ∧
      (∀ imm rd, Runs (.orBImm imm rd) s (Moves Wrote8 rd (s.reg8 rd ||| imm))) ∧
      (∀ rs rd, Runs (.orBReg rs rd) s (Moves Wrote8 rd (s.reg8 rd ||| s.reg8 rs))) ∧
      (∀ imm rd, Runs (.orWImm imm rd) s (Moves Wrote16 rd (s.reg16 rd ||| imm))) ∧
      (∀ rs rd, Runs (.orWReg rs rd) s (Moves Wrote16 rd (s.reg16 rd ||| s.reg16 rs))) ∧
      (∀ imm erd, Runs (.orLImm imm erd) s (Moves Wrote32 erd (s.reg32 erd ||| imm))) ∧
      (∀ ers erd, Runs (.orLReg ers erd) s (Moves Wrote32 erd (s.reg32 erd ||| s.reg32 ers))) ∧
      (∀ imm rd, Runs (.xorBImm imm rd) s (Moves Wrote8 rd (s.reg8 rd ^^^ imm))) ∧
      (∀ rs rd, Runs (.xorBReg rs rd) s (Moves Wrote8 rd (s.reg8 rd ^^^ s.reg8 rs))) ∧
      (∀ imm rd, Runs (.xorWImm imm rd) s (Moves Wrote16 rd (s.reg16 rd ^^^ imm))) ∧
      (∀ rs rd, Runs (.xorWReg rs rd) s (Moves Wrote16 rd (s.reg16 rd ^^^ s.reg16 rs))) ∧
      (∀ imm erd, Runs (.xorLImm imm erd) s (Moves Wrote32 erd (s.reg32 erd ^^^ imm))) ∧
      (∀ ers erd, Runs (.xorLReg ers erd) s (Moves Wrote32 erd (s.reg32 erd ^^^ s.reg32 ers))) ∧
      (∀ rd, Runs (.notB rd) s (Moves Wrote8 rd (~~~s.reg8 rd))) ∧
      (∀ rd, Runs (.notW rd) s (Moves Wrote16 rd (~~~s.reg16 rd))) ∧
      ∀ erd, Runs (.notL erd) s (Moves Wrote32 erd (~~~s.reg32 erd))

/-- Shifts by one bit. SHAL and SHLL double the operand: the bit shifted out is C, and V of SHAL says that
the signed double does not fit. SHAR halves the signed operand and SHLR the unsigned one, rounding down:
the bit shifted out is C and V is cleared. -/
def Obligations.ShiftResults : Prop :=
  ∀ s : State,
    (∀ rd, Runs (.shalB rd) s (Shifts Wrote8 rd fun r c v =>
        r.toNat + 2 ^ 8 * c.toNat = 2 * (s.reg8 rd).toNat ∧ v = decide (2 * (s.reg8 rd).toInt ≠ r.toInt))) ∧
      (∀ rd, Runs (.shalW rd) s (Shifts Wrote16 rd fun r c v =>
        r.toNat + 2 ^ 16 * c.toNat = 2 * (s.reg16 rd).toNat ∧ v = decide (2 * (s.reg16 rd).toInt ≠ r.toInt))) ∧
      (∀ erd, Runs (.shalL erd) s (Shifts Wrote32 erd fun r c v =>
        r.toNat + 2 ^ 32 * c.toNat = 2 * (s.reg32 erd).toNat ∧ v = decide (2 * (s.reg32 erd).toInt ≠ r.toInt))) ∧
      (∀ rd, Runs (.sharB rd) s (Shifts Wrote8 rd fun r c v =>
        2 * r.toInt + c.toNat = (s.reg8 rd).toInt ∧ v = false)) ∧
      (∀ rd, Runs (.sharW rd) s (Shifts Wrote16 rd fun r c v =>
        2 * r.toInt + c.toNat = (s.reg16 rd).toInt ∧ v = false)) ∧
      (∀ erd, Runs (.sharL erd) s (Shifts Wrote32 erd fun r c v =>
        2 * r.toInt + c.toNat = (s.reg32 erd).toInt ∧ v = false)) ∧
      (∀ rd, Runs (.shllB rd) s (Shifts Wrote8 rd fun r c v =>
        r.toNat + 2 ^ 8 * c.toNat = 2 * (s.reg8 rd).toNat ∧ v = false)) ∧
      (∀ rd, Runs (.shllW rd) s (Shifts Wrote16 rd fun r c v =>
        r.toNat + 2 ^ 16 * c.toNat = 2 * (s.reg16 rd).toNat ∧ v = false)) ∧
      (∀ erd, Runs (.shllL erd) s (Shifts Wrote32 erd fun r c v =>
        r.toNat + 2 ^ 32 * c.toNat = 2 * (s.reg32 erd).toNat ∧ v = false)) ∧
      (∀ rd, Runs (.shlrB rd) s (Shifts Wrote8 rd fun r c v =>
        2 * r.toNat + c.toNat = (s.reg8 rd).toNat ∧ v = false)) ∧
      (∀ rd, Runs (.shlrW rd) s (Shifts Wrote16 rd fun r c v =>
        2 * r.toNat + c.toNat = (s.reg16 rd).toNat ∧ v = false)) ∧
      ∀ erd, Runs (.shlrL erd) s (Shifts Wrote32 erd fun r c v =>
        2 * r.toNat + c.toNat = (s.reg32 erd).toNat ∧ v = false)

/-- Rotates by one bit. ROTL and ROTR return the bit rotated out to the other end and to C; ROTXL and ROTXR
rotate the register and C together. V is cleared. -/
def Obligations.RotateResults : Prop :=
  ∀ s : State,
    (∀ rd, Runs (.rotlB rd) s (Shifts Wrote8 rd fun r c v =>
        r.toNat + 2 ^ 8 * c.toNat = 2 * (s.reg8 rd).toNat + c.toNat ∧ v = false)) ∧
      (∀ rd, Runs (.rotlW rd) s (Shifts Wrote16 rd fun r c v =>
        r.toNat + 2 ^ 16 * c.toNat = 2 * (s.reg16 rd).toNat + c.toNat ∧ v = false)) ∧
      (∀ erd, Runs (.rotlL erd) s (Shifts Wrote32 erd fun r c v =>
        r.toNat + 2 ^ 32 * c.toNat = 2 * (s.reg32 erd).toNat + c.toNat ∧ v = false)) ∧
      (∀ rd, Runs (.rotrB rd) s (Shifts Wrote8 rd fun r c v =>
        2 * r.toNat + c.toNat = (s.reg8 rd).toNat + 2 ^ 8 * c.toNat ∧ v = false)) ∧
      (∀ rd, Runs (.rotrW rd) s (Shifts Wrote16 rd fun r c v =>
        2 * r.toNat + c.toNat = (s.reg16 rd).toNat + 2 ^ 16 * c.toNat ∧ v = false)) ∧
      (∀ erd, Runs (.rotrL erd) s (Shifts Wrote32 erd fun r c v =>
        2 * r.toNat + c.toNat = (s.reg32 erd).toNat + 2 ^ 32 * c.toNat ∧ v = false)) ∧
      (∀ rd, Runs (.rotxlB rd) s (Shifts Wrote8 rd fun r c v =>
        r.toNat + 2 ^ 8 * c.toNat = 2 * (s.reg8 rd).toNat + (s.flag .c).toNat ∧ v = false)) ∧
      (∀ rd, Runs (.rotxlW rd) s (Shifts Wrote16 rd fun r c v =>
        r.toNat + 2 ^ 16 * c.toNat = 2 * (s.reg16 rd).toNat + (s.flag .c).toNat ∧ v = false)) ∧
      (∀ erd, Runs (.rotxlL erd) s (Shifts Wrote32 erd fun r c v =>
        r.toNat + 2 ^ 32 * c.toNat = 2 * (s.reg32 erd).toNat + (s.flag .c).toNat ∧ v = false)) ∧
      (∀ rd, Runs (.rotxrB rd) s (Shifts Wrote8 rd fun r c v =>
        2 * r.toNat + c.toNat = (s.reg8 rd).toNat + 2 ^ 8 * (s.flag .c).toNat ∧ v = false)) ∧
      (∀ rd, Runs (.rotxrW rd) s (Shifts Wrote16 rd fun r c v =>
        2 * r.toNat + c.toNat = (s.reg16 rd).toNat + 2 ^ 16 * (s.flag .c).toNat ∧ v = false)) ∧
      ∀ erd, Runs (.rotxrL erd) s (Shifts Wrote32 erd fun r c v =>
        2 * r.toNat + c.toNat = (s.reg32 erd).toNat + 2 ^ 32 * (s.flag .c).toNat ∧ v = false)

/-- BSET, BCLR, BNOT, BST and BIST on a register change the designated bit of that byte and nothing else; a
register that names the bit counts with its low three bits. -/
def Obligations.BitWritesRegister : Prop :=
  ∀ s : State,
    (∀ n rd, Runs (.bsetImmReg n rd) s (Gives Wrote8 rd (bitSet n.toNat (s.reg8 rd)) SameCcr)) ∧
      (∀ rn rd, Runs (.bsetRnReg rn rd) s (Gives Wrote8 rd (bitSet (bitIn s rn) (s.reg8 rd)) SameCcr)) ∧
      (∀ n rd, Runs (.bclrImmReg n rd) s (Gives Wrote8 rd (bitCleared n.toNat (s.reg8 rd)) SameCcr)) ∧
      (∀ rn rd, Runs (.bclrRnReg rn rd) s (Gives Wrote8 rd (bitCleared (bitIn s rn) (s.reg8 rd)) SameCcr)) ∧
      (∀ n rd, Runs (.bnotImmReg n rd) s (Gives Wrote8 rd (bitInverted n.toNat (s.reg8 rd)) SameCcr)) ∧
      (∀ rn rd, Runs (.bnotRnReg rn rd) s (Gives Wrote8 rd (bitInverted (bitIn s rn) (s.reg8 rd)) SameCcr)) ∧
      (∀ n rd, Runs (.bstReg n rd) s (Gives Wrote8 rd (bitStored (s.flag .c) n.toNat (s.reg8 rd)) SameCcr)) ∧
      ∀ n rd, Runs (.bistReg n rd) s (Gives Wrote8 rd (bitStored (!s.flag .c) n.toNat (s.reg8 rd)) SameCcr)

/-- BSET, BCLR, BNOT, BST and BIST on memory read the byte at @ERd or @aa:8, change the designated bit and
write the byte back; no other byte, register or flag changes. -/
def Obligations.BitWritesMemory : Prop :=
  ∀ s : State,
    (∀ n erd, Runs (.bsetImmInd n erd) s (ChangesByte (.ind erd) (bitSet n.toNat))) ∧
      (∀ rn erd, Runs (.bsetRnInd rn erd) s (ChangesByte (.ind erd) (bitSet (bitIn s rn)))) ∧
      (∀ n aa, Runs (.bsetImmAbs n aa) s (ChangesByte (.abs8 aa) (bitSet n.toNat))) ∧
      (∀ rn aa, Runs (.bsetRnAbs rn aa) s (ChangesByte (.abs8 aa) (bitSet (bitIn s rn)))) ∧
      (∀ n erd, Runs (.bclrImmInd n erd) s (ChangesByte (.ind erd) (bitCleared n.toNat))) ∧
      (∀ rn erd, Runs (.bclrRnInd rn erd) s (ChangesByte (.ind erd) (bitCleared (bitIn s rn)))) ∧
      (∀ n aa, Runs (.bclrImmAbs n aa) s (ChangesByte (.abs8 aa) (bitCleared n.toNat))) ∧
      (∀ rn aa, Runs (.bclrRnAbs rn aa) s (ChangesByte (.abs8 aa) (bitCleared (bitIn s rn)))) ∧
      (∀ n erd, Runs (.bnotImmInd n erd) s (ChangesByte (.ind erd) (bitInverted n.toNat))) ∧
      (∀ rn erd, Runs (.bnotRnInd rn erd) s (ChangesByte (.ind erd) (bitInverted (bitIn s rn)))) ∧
      (∀ n aa, Runs (.bnotImmAbs n aa) s (ChangesByte (.abs8 aa) (bitInverted n.toNat))) ∧
      (∀ rn aa, Runs (.bnotRnAbs rn aa) s (ChangesByte (.abs8 aa) (bitInverted (bitIn s rn)))) ∧
      (∀ n erd, Runs (.bstInd n erd) s (ChangesByte (.ind erd) (bitStored (s.flag .c) n.toNat))) ∧
      (∀ n aa, Runs (.bstAbs n aa) s (ChangesByte (.abs8 aa) (bitStored (s.flag .c) n.toNat))) ∧
      (∀ n erd, Runs (.bistInd n erd) s (ChangesByte (.ind erd) (bitStored (!s.flag .c) n.toNat))) ∧
      ∀ n aa, Runs (.bistAbs n aa) s (ChangesByte (.abs8 aa) (bitStored (!s.flag .c) n.toNat))

/-- BTST sets Z to the inverse of the designated bit; BAND, BIAND, BOR, BIOR, BXOR, BIXOR, BLD and BILD
combine the bit or its inverse with C or load it into C; no other flag, no register and no byte of memory
changes. -/
def Obligations.BitTests : Prop :=
  ∀ s : State,
    (∀ n rd, Runs (.btstImmReg n rd) s (SetsFlag .z (!(s.reg8 rd).getLsbD n.toNat))) ∧
      (∀ n erd, Runs (.btstImmInd n erd) s (SetsFlagFrom (.ind erd) .z fun b => !b.getLsbD n.toNat)) ∧
      (∀ n aa, Runs (.btstImmAbs n aa) s (SetsFlagFrom (.abs8 aa) .z fun b => !b.getLsbD n.toNat)) ∧
      (∀ rn rd, Runs (.btstRnReg rn rd) s (SetsFlag .z (!(s.reg8 rd).getLsbD (bitIn s rn)))) ∧
      (∀ rn erd, Runs (.btstRnInd rn erd) s (SetsFlagFrom (.ind erd) .z fun b => !b.getLsbD (bitIn s rn))) ∧
      (∀ rn aa, Runs (.btstRnAbs rn aa) s (SetsFlagFrom (.abs8 aa) .z fun b => !b.getLsbD (bitIn s rn))) ∧
      (∀ n rd, Runs (.bandReg n rd) s (SetsFlag .c (s.flag .c && (s.reg8 rd).getLsbD n.toNat))) ∧
      (∀ n erd, Runs (.bandInd n erd) s (SetsFlagFrom (.ind erd) .c fun b => s.flag .c && b.getLsbD n.toNat)) ∧
      (∀ n aa, Runs (.bandAbs n aa) s (SetsFlagFrom (.abs8 aa) .c fun b => s.flag .c && b.getLsbD n.toNat)) ∧
      (∀ n rd, Runs (.biandReg n rd) s (SetsFlag .c (s.flag .c && !(s.reg8 rd).getLsbD n.toNat))) ∧
      (∀ n erd, Runs (.biandInd n erd) s (SetsFlagFrom (.ind erd) .c fun b => s.flag .c && !b.getLsbD n.toNat)) ∧
      (∀ n aa, Runs (.biandAbs n aa) s (SetsFlagFrom (.abs8 aa) .c fun b => s.flag .c && !b.getLsbD n.toNat)) ∧
      (∀ n rd, Runs (.borReg n rd) s (SetsFlag .c (s.flag .c || (s.reg8 rd).getLsbD n.toNat))) ∧
      (∀ n erd, Runs (.borInd n erd) s (SetsFlagFrom (.ind erd) .c fun b => s.flag .c || b.getLsbD n.toNat)) ∧
      (∀ n aa, Runs (.borAbs n aa) s (SetsFlagFrom (.abs8 aa) .c fun b => s.flag .c || b.getLsbD n.toNat)) ∧
      (∀ n rd, Runs (.biorReg n rd) s (SetsFlag .c (s.flag .c || !(s.reg8 rd).getLsbD n.toNat))) ∧
      (∀ n erd, Runs (.biorInd n erd) s (SetsFlagFrom (.ind erd) .c fun b => s.flag .c || !b.getLsbD n.toNat)) ∧
      (∀ n aa, Runs (.biorAbs n aa) s (SetsFlagFrom (.abs8 aa) .c fun b => s.flag .c || !b.getLsbD n.toNat)) ∧
      (∀ n rd, Runs (.bxorReg n rd) s (SetsFlag .c (xor (s.flag .c) ((s.reg8 rd).getLsbD n.toNat)))) ∧
      (∀ n erd, Runs (.bxorInd n erd) s (SetsFlagFrom (.ind erd) .c fun b => xor (s.flag .c) (b.getLsbD n.toNat))) ∧
      (∀ n aa, Runs (.bxorAbs n aa) s (SetsFlagFrom (.abs8 aa) .c fun b => xor (s.flag .c) (b.getLsbD n.toNat))) ∧
      (∀ n rd, Runs (.bixorReg n rd) s (SetsFlag .c (xor (s.flag .c) (!(s.reg8 rd).getLsbD n.toNat)))) ∧
      (∀ n erd, Runs (.bixorInd n erd) s (SetsFlagFrom (.ind erd) .c fun b => xor (s.flag .c) (!b.getLsbD n.toNat))) ∧
      (∀ n aa, Runs (.bixorAbs n aa) s (SetsFlagFrom (.abs8 aa) .c fun b => xor (s.flag .c) (!b.getLsbD n.toNat))) ∧
      (∀ n rd, Runs (.bldReg n rd) s (SetsFlag .c ((s.reg8 rd).getLsbD n.toNat))) ∧
      (∀ n erd, Runs (.bldInd n erd) s (SetsFlagFrom (.ind erd) .c fun b => b.getLsbD n.toNat)) ∧
      (∀ n aa, Runs (.bldAbs n aa) s (SetsFlagFrom (.abs8 aa) .c fun b => b.getLsbD n.toNat)) ∧
      (∀ n rd, Runs (.bildReg n rd) s (SetsFlag .c (!(s.reg8 rd).getLsbD n.toNat))) ∧
      (∀ n erd, Runs (.bildInd n erd) s (SetsFlagFrom (.ind erd) .c fun b => !b.getLsbD n.toNat)) ∧
      ∀ n aa, Runs (.bildAbs n aa) s (SetsFlagFrom (.abs8 aa) .c fun b => !b.getLsbD n.toNat)

/-- Each branch, with an 8-bit or a 16-bit displacement, goes to the address after it plus the sign-extended
displacement exactly where its condition on N, Z, V and C holds, and to the address after it otherwise;
nothing else changes but what the read of the branch address leaves, which the 8-bit forms make whether
they branch or not (R472; which word then runs is an inference, log 39). -/
def Obligations.ConditionalBranches : Prop :=
  ∀ s : State,
    (∀ d, Runs (.braD8 d) s (BranchesShort (true) (d.signExtend 24))) ∧
      (∀ d, Runs (.braD16 d) s (Branches (true) (d.signExtend 24))) ∧
      (∀ d, Runs (.brnD8 d) s (BranchesShort (false) (d.signExtend 24))) ∧
      (∀ d, Runs (.brnD16 d) s (Branches (false) (d.signExtend 24))) ∧
      (∀ d, Runs (.bhiD8 d) s (BranchesShort (!(s.flag .c || s.flag .z)) (d.signExtend 24))) ∧
      (∀ d, Runs (.bhiD16 d) s (Branches (!(s.flag .c || s.flag .z)) (d.signExtend 24))) ∧
      (∀ d, Runs (.blsD8 d) s (BranchesShort (s.flag .c || s.flag .z) (d.signExtend 24))) ∧
      (∀ d, Runs (.blsD16 d) s (Branches (s.flag .c || s.flag .z) (d.signExtend 24))) ∧
      (∀ d, Runs (.bccD8 d) s (BranchesShort (!s.flag .c) (d.signExtend 24))) ∧
      (∀ d, Runs (.bccD16 d) s (Branches (!s.flag .c) (d.signExtend 24))) ∧
      (∀ d, Runs (.bcsD8 d) s (BranchesShort (s.flag .c) (d.signExtend 24))) ∧
      (∀ d, Runs (.bcsD16 d) s (Branches (s.flag .c) (d.signExtend 24))) ∧
      (∀ d, Runs (.bneD8 d) s (BranchesShort (!s.flag .z) (d.signExtend 24))) ∧
      (∀ d, Runs (.bneD16 d) s (Branches (!s.flag .z) (d.signExtend 24))) ∧
      (∀ d, Runs (.beqD8 d) s (BranchesShort (s.flag .z) (d.signExtend 24))) ∧
      (∀ d, Runs (.beqD16 d) s (Branches (s.flag .z) (d.signExtend 24))) ∧
      (∀ d, Runs (.bvcD8 d) s (BranchesShort (!s.flag .v) (d.signExtend 24))) ∧
      (∀ d, Runs (.bvcD16 d) s (Branches (!s.flag .v) (d.signExtend 24))) ∧
      (∀ d, Runs (.bvsD8 d) s (BranchesShort (s.flag .v) (d.signExtend 24))) ∧
      (∀ d, Runs (.bvsD16 d) s (Branches (s.flag .v) (d.signExtend 24))) ∧
      (∀ d, Runs (.bplD8 d) s (BranchesShort (!s.flag .n) (d.signExtend 24))) ∧
      (∀ d, Runs (.bplD16 d) s (Branches (!s.flag .n) (d.signExtend 24))) ∧
      (∀ d, Runs (.bmiD8 d) s (BranchesShort (s.flag .n) (d.signExtend 24))) ∧
      (∀ d, Runs (.bmiD16 d) s (Branches (s.flag .n) (d.signExtend 24))) ∧
      (∀ d, Runs (.bgeD8 d) s (BranchesShort (!xor (s.flag .n) (s.flag .v)) (d.signExtend 24))) ∧
      (∀ d, Runs (.bgeD16 d) s (Branches (!xor (s.flag .n) (s.flag .v)) (d.signExtend 24))) ∧
      (∀ d, Runs (.bltD8 d) s (BranchesShort (xor (s.flag .n) (s.flag .v)) (d.signExtend 24))) ∧
      (∀ d, Runs (.bltD16 d) s (Branches (xor (s.flag .n) (s.flag .v)) (d.signExtend 24))) ∧
      (∀ d, Runs (.bgtD8 d) s (BranchesShort (!(s.flag .z || xor (s.flag .n) (s.flag .v))) (d.signExtend 24))) ∧
      (∀ d, Runs (.bgtD16 d) s (Branches (!(s.flag .z || xor (s.flag .n) (s.flag .v))) (d.signExtend 24))) ∧
      (∀ d, Runs (.bleD8 d) s (BranchesShort (s.flag .z || xor (s.flag .n) (s.flag .v)) (d.signExtend 24))) ∧
      ∀ d, Runs (.bleD16 d) s (Branches (s.flag .z || xor (s.flag .n) (s.flag .v)) (d.signExtend 24))

/-- After CMP of X with Y on bytes, words or longwords, BHI, BLS, BCC, BCS, BNE and BEQ branch as the
unsigned numbers compare and BGE, BLT, BGT and BLE as the signed numbers compare. -/
def Obligations.ConditionsAfterCompare : Prop :=
  let after : (w : Nat) → BitVec w → BitVec w → Effect := fun _ x y _ _ t =>
    (Cond.hi.holds t = decide (y.toNat < x.toNat)) ∧ (Cond.ls.holds t = decide (x.toNat ≤ y.toNat)) ∧
      (Cond.cc.holds t = decide (y.toNat ≤ x.toNat)) ∧ (Cond.cs.holds t = decide (x.toNat < y.toNat)) ∧
      (Cond.ne.holds t = decide (x ≠ y)) ∧ (Cond.eq.holds t = decide (x = y)) ∧
      (Cond.ge.holds t = decide (y.toInt ≤ x.toInt)) ∧ (Cond.lt.holds t = decide (x.toInt < y.toInt)) ∧
      (Cond.gt.holds t = decide (y.toInt < x.toInt)) ∧ (Cond.le.holds t = decide (x.toInt ≤ y.toInt))
  ∀ s : State,
    (∀ imm rd, Runs (.cmpBImm imm rd) s (after 8 (s.reg8 rd) imm)) ∧
      (∀ rs rd, Runs (.cmpBReg rs rd) s (after 8 (s.reg8 rd) (s.reg8 rs))) ∧
      (∀ imm rd, Runs (.cmpWImm imm rd) s (after 16 (s.reg16 rd) imm)) ∧
      (∀ rs rd, Runs (.cmpWReg rs rd) s (after 16 (s.reg16 rd) (s.reg16 rs))) ∧
      (∀ imm erd, Runs (.cmpLImm imm erd) s (after 32 (s.reg32 erd) imm)) ∧
      ∀ ers erd, Runs (.cmpLReg ers erd) s (after 32 (s.reg32 erd) (s.reg32 ers))

/-- JMP goes to the register, the absolute address or the address stored at @aa:8. BSR and JSR push the
address after them (a word in normal mode; in advanced mode a longword whose first byte may be anything,
D10, log 12) and go to their target. That JSR takes its target before the push is an inference of the
spec (R478, log 36); a target in a device window is read before the push too (R474, log 21). RTS pops the
return address. No flag changes. -/
def Obligations.JumpsAndCalls : Prop :=
  ∀ s : State,
    (∀ ern, Runs (.jmpInd ern) s (GoesTo ((s.reg32 ern).setWidth 24))) ∧
      (∀ aa, Runs (.jmpAbs aa) s (GoesTo aa)) ∧
      (∀ aa, Runs (.jmpMem aa) s (GoesThrough (aa.setWidth 24))) ∧
      (∀ d, Runs (.bsrD8 d) s
        (Calls (s.nextPc (.bsrD8 d) + d.signExtend 24) (s.readTarget (s.nextPc (.bsrD8 d) + d.signExtend 24)))) ∧
      (∀ d, Runs (.bsrD16 d) s
        (Calls (s.nextPc (.bsrD16 d) + d.signExtend 24) (s.readTarget (s.nextPc (.bsrD16 d) + d.signExtend 24)))) ∧
      (∀ ern, Runs (.jsrInd ern) s
        (Calls ((s.reg32 ern).setWidth 24) (s.readTarget ((s.reg32 ern).setWidth 24)))) ∧
      (∀ aa, Runs (.jsrAbs aa) s (Calls aa (s.readTarget aa))) ∧
      (∀ aa, Runs (.jsrMem aa) s (Calls (s.loadPointer (aa.setWidth 24)) (s.seePointer (aa.setWidth 24)))) ∧
      Runs .rts s ReturnsFromSubroutine

/-- In a space of ordinary memory, RTS straight after BSR or JSR of any form goes to the address after the
call, with every register as it was before the call. -/
def Obligations.CallReturns : Prop :=
  ∀ (s : State) (i : Instr), s.AllMemory →
    ((∃ d, i = .bsrD8 d) ∨ (∃ d, i = .bsrD16 d) ∨ (∃ n, i = .jsrInd n) ∨ (∃ a, i = .jsrAbs a) ∨ ∃ a, i = .jsrMem a) →
    ∃ t u, Sys2Proof.Machine.exec i s = .next t ∧ Sys2Proof.Machine.exec .rts t = .next u ∧
      u.pc = s.nextPc i ∧ SameRegs s u ∧ u.ccr = s.ccr

/-- TRAPA #x enters vector 8 + x with the address after it as return address: SP is 4 lower, the frame holds
CCR and that address, I is set (and UI where it is a mask bit), PC is the start address read from the
vector after the frame is written, and nothing else changes. RTE loads CCR from the byte at SP and PC
from the lower 16 (normal mode) or 24 (advanced mode) bits of the frame and raises SP by 4. -/
def Obligations.TrapAndReturn : Prop :=
  (∀ (s : State) (x : BitVec 2), Runs (.trapa x) s fun s n t => Entered (8#8 + x.setWidth 8) n s t) ∧
    ∀ s : State, Runs .rte s ReturnsFromException

/-- In normal mode the vectors of TRAPA #0 to #3 are the words at H'0010 to H'0017 and hold 16-bit addresses;
in advanced mode they are the longwords at H'000020 to H'00002F, whose first byte is ignored and whose
lower 24 bits are the start address; they are vectors 8 to 11. -/
def Obligations.TrapVectors : Prop :=
  ∀ (s : State) (x : BitVec 2), s.AllMemory →
    let k : Byte := 8#8 + x.setWidth 8
    k.toNat = 8 + x.toNat ∧
      match s.par.mode with
      | .normal =>
        (s.vectorAddr k).toNat = 0x0010 + 2 * x.toNat ∧
          s.loadPointer (s.vectorAddr k) =
            0x00#8 ++ s.mem.get (0x0010 + 2 * x.toNat) ++ s.mem.get (0x0011 + 2 * x.toNat)
      | .advanced =>
        (s.vectorAddr k).toNat = 0x000020 + 4 * x.toNat ∧
          s.loadPointer (s.vectorAddr k) =
            s.mem.get (0x000021 + 4 * x.toNat) ++ s.mem.get (0x000022 + 4 * x.toNat) ++
              s.mem.get (0x000023 + 4 * x.toNat)

/-- In a space of ordinary memory, RTE straight after TRAPA, or straight after the entry of an interrupt,
goes to the return address that was saved, with every general register and all eight bits of CCR as they
were. -/
def Obligations.TrapReturns : Prop :=
  (∀ (s : State) (x : BitVec 2), s.AllMemory →
      ∃ t u, Sys2Proof.Machine.exec (.trapa x) s = .next t ∧ Sys2Proof.Machine.exec .rte t = .next u ∧
        u.pc = s.nextPc (.trapa x) ∧ SameRegs s u ∧ u.ccr = s.ccr) ∧
    ∀ (s : State) (k : Byte), s.AllMemory → s.PcFormed →
      ∃ u, Sys2Proof.Machine.exec .rte (s.exceptionEntry k s.pc) = .next u ∧
        u.pc = s.pc ∧ SameRegs s u ∧ u.ccr = s.ccr

/-- SLEEP goes to sleep where SSBY is 0 and to software standby where it is 1, with PC at the instruction
after it and everything else kept. A run that has ended there, the host presenting nothing that wakes the
CPU (masked requests or none), stays ended: a step that is no bus request leaves the registers, CCR, PC,
memory and the state as they are. -/
def Obligations.SleepStates : Prop :=
  (∀ s : State, ∃ t, Sys2Proof.Machine.exec .sleep s = .next t ∧
      t = { s with pc := s.nextPc .sleep, pstate := if s.ssby then .softwareStandby else .sleep }) ∧
    ∀ s : State, s.Quiescent → s.host.head? ≠ some .busRequest →
      ∃ (t : State) (b : Bool), Sys2Proof.Machine.step s = .next t ∧
        t = { s with ssby := b, host := s.host.tail, draws := s.draws + 1 } ∧ t.Quiescent ∧
        ((∀ c : Bool, s.host.head? ≠ some (.setSsby c)) → b = s.ssby)

/-- NOP is the code 00 00, of two bytes and two states; it only advances PC by 2 (reduced as every write of
PC is); a first byte H'00 with another second byte is not an assigned code. -/
def Obligations.NopOnlyAdvances : Prop :=
  (∀ s : State, Sys2Proof.Machine.exec .nop s = .next { s with pc := s.pcForm (s.pc + 2#24) }) ∧
    encode .nop = [0x00, 0x00] ∧ decode [0x00, 0x00] = .ok .nop ∧
    (∀ (b1 : Byte) (t : List Byte), b1 ≠ 0x00 → decodeCode 0x00 b1 t = none) ∧
    ∀ (m : Mode) (k : Nat),
      (cyclesOf .nop m k).i = 1 ∧
        (cyclesOf .nop m k).states .onChipMemory .onChipMemory .onChipMemory .onChipMemory .onChipMemory = 2

/-- LDC from an immediate, a register or memory (the byte at the even address of the word) and ANDC, ORC and
XORC write all eight bits of CCR and skip interrupt detection once; no register but an address register
that is stepped and no byte of memory changes. -/
def Obligations.CcrWrites : Prop :=
  ∀ s : State,
    (∀ imm, Runs (.ldcImm imm) s fun s n t => WritesCcr imm s s n t ∧ SameRecord s t) ∧
      (∀ rs, Runs (.ldcReg rs) s fun s n t => WritesCcr (s.reg8 rs) s s n t ∧ SameRecord s t) ∧
      (∀ imm, Runs (.andc imm) s fun s n t => WritesCcr (s.ccr &&& imm) s s n t ∧ SameRecord s t) ∧
      (∀ imm, Runs (.orc imm) s fun s n t => WritesCcr (s.ccr ||| imm) s s n t ∧ SameRecord s t) ∧
      (∀ imm, Runs (.xorc imm) s fun s n t => WritesCcr (s.ccr ^^^ imm) s s n t ∧ SameRecord s t) ∧
      (∀ ers, Runs (.ldcLoadInd ers) s (LoadsCcr (.ind ers))) ∧
      (∀ d ers, Runs (.ldcLoadDisp16 d ers) s (LoadsCcr (.disp16 d ers))) ∧
      (∀ d ers, Runs (.ldcLoadDisp24 d ers) s (LoadsCcr (.disp24 d ers))) ∧
      (∀ ers, Runs (.ldcLoadInc ers) s (LoadsCcr (.inc ers))) ∧
      (∀ aa, Runs (.ldcLoadAbs16 aa) s (LoadsCcr (.abs16 aa))) ∧
      ∀ aa, Runs (.ldcLoadAbs24 aa) s (LoadsCcr (.abs24 aa))

/-- STC copies CCR to a register, or writes a word to memory with CCR at the even address; the byte at the
odd address may be anything (D21, log 13). CCR is kept and interrupt detection is not skipped. -/
def Obligations.CcrReads : Prop :=
  ∀ s : State,
    (∀ rd, Runs (.stcReg rd) s (Gives Wrote8 rd s.ccr SameCcr)) ∧
      (∀ erd, Runs (.stcStoreInd erd) s (StoresCcr (.ind erd))) ∧
      (∀ d erd, Runs (.stcStoreDisp16 d erd) s (StoresCcr (.disp16 d erd))) ∧
      (∀ d erd, Runs (.stcStoreDisp24 d erd) s (StoresCcr (.disp24 d erd))) ∧
      (∀ erd, Runs (.stcStoreDec erd) s (StoresCcr (.dec erd))) ∧
      (∀ aa, Runs (.stcStoreAbs16 aa) s (StoresCcr (.abs16 aa))) ∧
      ∀ aa, Runs (.stcStoreAbs24 aa) s (StoresCcr (.abs24 aa))

/-- After an instruction that writes CCR with LDC, ANDC, ORC or XORC, and after reset exception handling, a
request at the next boundary is not accepted, NMI included: the step runs the next instruction from a
state with the inhibit cleared. RTE, TRAPA and the entry of an interrupt do not set the inhibit. -/
def Obligations.InterruptInhibit : Prop :=
  (∀ (s : State) (r : Request) (rest : List HostEvent), s.pstate = .programExecution → s.irqInhibit = true →
      s.host = .request r :: rest → Sys2Proof.Machine.step s = s.runInstruction ∧
        ∀ i : Instr, (s.started i).irqInhibit = false) ∧
    (∀ s : State, s.pstate = .exceptionHandling → (s.host = [] ∨ ∃ r rest, s.host = .request r :: rest) →
      ∃ t, Sys2Proof.Machine.step s = .next t ∧ t.irqInhibit = true ∧ t.pstate = .programExecution) ∧
    (∀ s : State, Runs .rte s fun s _ t => t.irqInhibit = s.irqInhibit) ∧
    (∀ (s : State) (x : BitVec 2), Runs (.trapa x) s fun s _ t => t.irqInhibit = s.irqInhibit) ∧
    ∀ (s : State) (k : Byte) (ret : Addr), (s.exceptionEntry k ret).irqInhibit = s.irqInhibit

/-- EEPMOV.B copies as many bytes as R4L says from @ER5 to @ER6, one at a time from low to high addresses,
each written before the next is read; ER5 and ER6 end past the areas, R4L ends 0, and R4H, E4, the other
registers, CCR and every byte outside the destination are as before. -/
def Obligations.BlockTransferBytes : Prop :=
  ∀ s : State, Runs .eepmovB s fun s n t =>
    CopiedBlock (s.reg8 (.l .er4)).toNat s t ∧ t.reg8 (.l .er4) = 0 ∧ t.reg8 (.h .er4) = s.reg8 (.h .er4) ∧
      t.reg16 (.e .er4) = s.reg16 (.e .er4) ∧ t.pc = n

/-- Without an NMI EEPMOV.W copies as many bytes as R4 says, as EEPMOV.B does, and leaves R4 at 0. An NMI
during byte number k of the transfer is taken after that byte, with the address after the instruction as
return address and the vector VEC(NMI): k bytes are copied, R4 holds the number that remain, and ER5 and
ER6 the next addresses. When in the transfer the NMI arrives is the host's schedule, and the two fetches
between the transfer and the frame are an inference (log 24). -/
def Obligations.BlockTransferWords : Prop :=
  (∀ s : State, (∀ k rest, s.host = .nmiDuringBlock k :: rest → k = 0 ∨ (s.reg16 (.r .er4)).toNat < k) →
      Runs .eepmovW s fun s n t =>
        CopiedBlock (s.reg16 (.r .er4)).toNat s t ∧ t.reg16 (.r .er4) = 0 ∧
          t.reg16 (.e .er4) = s.reg16 (.e .er4) ∧ t.pc = n) ∧
    ∀ (s : State) (k : Nat) (rest : List HostEvent), s.host = .nmiDuringBlock k :: rest →
      1 ≤ k → k ≤ (s.reg16 (.r .er4)).toNat →
      Runs .eepmovW s fun s n t =>
        ∃ u v : State, CopiedBlock k s u ∧ u.reg16 (.r .er4) = s.reg16 (.r .er4) - BitVec.ofNat 16 k ∧
          u.reg16 (.e .er4) = s.reg16 (.e .er4) ∧ RecordReads [n, n + 2#24] u v ∧
          v = { u with bus := v.bus, draws := v.draws } ∧ Entered (s.vectorOf .nmi) n v t

/-- At a boundary where detection is not skipped, and in sleep or (for an external request or NMI) in
software standby, a request that the mask lets through is taken: NMI always, others with I = 0 or as the
host answers where UI is a mask bit and is 0 (D5, log 23). From program execution the prefetch address is
read first; the entry saves PC as the return address and enters the vector VEC gives the source; the
first word of the handler is read last (R610, notes *6 and *7 of Table 2.10). -/
def Obligations.InterruptAccepted : Prop :=
  ∀ (s : State) (r : Request) (rest : List HostEvent), s.host = .request r :: rest → Samples s r → Unmasked s r →
    ∃ u t v : State, Sys2Proof.Machine.step s = .next v.tick ∧
      RecordReads (if s.pstate = .programExecution then [s.pc + 2#24] else []) s u ∧
      u = { s with bus := u.bus, draws := u.draws } ∧ Entered (s.vectorOf r.source) s.pc u t ∧
      RecordRead (t.wordAddr t.pc) (.readWord (t.wordAddr t.pc)) t v ∧
      v = { t with prefetch := some (t.loadW t.pc), bus := v.bus, draws := v.draws }

/-- A request the mask does not let through has no effect: a running CPU runs the next instruction, and a
sleeping one or one in software standby stays as it is. In software standby a request of an internal
source has no effect, masked or not. -/
def Obligations.InterruptMasked : Prop :=
  (∀ (s : State) (r : Request) (rest : List HostEvent), s.host = .request r :: rest → ¬ Unmasked s r →
      (s.pstate = .programExecution → Sys2Proof.Machine.step s = s.runInstruction) ∧
        (s.pstate = .sleep ∨ s.pstate = .softwareStandby → Sys2Proof.Machine.step s = .next s.tick)) ∧
    ∀ (s : State) (n : Nat) (r : Request) (rest : List HostEvent), s.host = .request r :: rest →
      r.source = .internal n → s.pstate = .softwareStandby → Sys2Proof.Machine.step s = .next s.tick

/-- RES Low in every state but hardware standby leads to the reset state with I set; the registers, the other
bits of CCR, PC, memory, the inhibit, the parameters, SSBY and the transcript are kept, and the word read
ahead is dropped (log 20); there no interrupt request, NMI included, and nothing else the host does but
RES, STBY Low and a write of SSBY has any effect; RES High starts exception handling, in which no
request, NMI included, is accepted either: unless RES, STBY or a bus request stops it or SSBY is written
in that step, it ends with PC from vector 0, nothing pushed, I set, interrupt detection skipped once, the
word at PC read, memory as before, and, under WARM_RESET, the general registers and the other bits of CCR
as before (without it they are free values: D17, log 25). -/
def Obligations.ResetSequence : Prop :=
  (∀ (s : State) (rest : List HostEvent), s.host = .resLow :: rest → s.pstate ≠ .hardwareStandby →
      ∃ t, Sys2Proof.Machine.step s = .next t ∧ t.pstate = .reset ∧ t.flag .i = true ∧ SameFlagsBut [.i] s t ∧
        SameRegs s t ∧ t.pc = s.pc ∧ t.mem = s.mem ∧ t.irqInhibit = s.irqInhibit ∧ t.par = s.par ∧
        t.ssby = s.ssby ∧ t.bus = s.bus ∧ t.prefetch = none) ∧
    (∀ s : State, s.pstate = .reset →
      (∀ e : HostEvent, s.host.head? = some e → e ∉ [.resLow, .resHigh, .stbyLow] ∧ ∀ b, e ≠ .setSsby b) →
      Sys2Proof.Machine.step s = .next { s with host := s.host.tail, draws := s.draws + 1 }) ∧
    (∀ (s : State) (rest : List HostEvent), s.host = .resHigh :: rest → s.pstate = .reset →
      ∃ t, Sys2Proof.Machine.step s = .next t ∧
        t = { s with pstate := .exceptionHandling, host := rest, draws := s.draws + 1 }) ∧
    ∀ s : State, s.pstate = .exceptionHandling →
      (∀ e : HostEvent, s.host.head? = some e → e ∉ [.resLow, .stbyLow, .busRequest] ∧ ∀ b, e ≠ .setSsby b) →
      ∃ t, Sys2Proof.Machine.step s = .next t ∧ t.pstate = .programExecution ∧ t.flag .i = true ∧
        t.irqInhibit = true ∧ t.mem = s.mem ∧
        (s.AllMemory → t.pc = s.pcForm (s.loadPointer (s.vectorAddr 0)) ∧ t.prefetch = some (s.loadW t.pc)) ∧
        (s.par.warmReset = true → SameRegs s t ∧ SameFlagsBut [.i] s t)

/-- STBY Low leads from every state to hardware standby with memory kept (the CPU registers are free values:
log 26); the CPU stays there until STBY High, which leads to the reset state with I set and memory kept.
A bus request leads from program execution, exception handling and sleep to the bus-released state; there
interrupt requests and idle steps have no effect, and the end of the request leads back to the state that
was left. What the other master writes reaches ordinary memory and nothing else: the model's extension of
D14 (log 27). -/
def Obligations.StoppedStates : Prop :=
  (∀ (s : State) (rest : List HostEvent), s.host = .stbyLow :: rest →
      ∃ t, Sys2Proof.Machine.step s = .next t ∧ t.pstate = .hardwareStandby ∧ t.mem = s.mem) ∧
    (∀ s t : State, s.pstate = .hardwareStandby → Sys2Proof.Machine.step s = .next t →
      t.mem = s.mem ∧ (t.pstate = .hardwareStandby ∨ s.host.head? = some .stbyHigh ∧ t.pstate = .reset)) ∧
    (∀ (s : State) (rest : List HostEvent), s.pstate = .hardwareStandby → s.host = .stbyHigh :: rest →
      ∃ t, Sys2Proof.Machine.step s = .next t ∧ t.pstate = .reset ∧ t.flag .i = true ∧ t.mem = s.mem) ∧
    (∀ (s : State) (h : BusHolder) (rest : List HostEvent), s.pstate = h.state → s.host = .busRequest :: rest →
      Sys2Proof.Machine.step s = .next { s with pstate := .busReleased h, host := rest, draws := s.draws + 1 }) ∧
    (∀ (s : State) (h : BusHolder), s.pstate = .busReleased h →
      (∀ e : HostEvent, s.host.head? = some e →
        e = .idle ∨ e = .busRequest ∨ (∃ r, e = .request r) ∨ ∃ k, e = .nmiDuringBlock k) →
      Sys2Proof.Machine.step s = .next { s with host := s.host.tail, draws := s.draws + 1 }) ∧
    (∀ (s : State) (h : BusHolder) (rest : List HostEvent), s.pstate = .busReleased h → s.host = .busEnd :: rest →
      Sys2Proof.Machine.step s = .next { s with pstate := h.state, host := rest, draws := s.draws + 1 }) ∧
    ∀ (s : State) (h : BusHolder) (a : Addr) (v : Byte) (rest : List HostEvent), s.pstate = .busReleased h →
      s.host = .masterWrite a v :: rest →
      ∃ t, Sys2Proof.Machine.step s = .next t ∧
        t = { s with mem := t.mem, host := rest, draws := s.draws + 1 } ∧
        (s.kindAt (s.red a) = none → t.mem.get (s.red a).toNat = v ∧
          ∀ x : Nat, x ≠ (s.red a).toNat → t.mem.get x = s.mem.get x) ∧
        (s.kindAt (s.red a) ≠ none → t.mem = s.mem)

end
end

