-- ==== Sys2Proof/Laws/Memory.lean ====
section
/-! SUPPORT. Memory: a read after a write gives the value written, a write leaves every other address
alone, and every operation keeps the canonical form. -/

namespace Sys2Proof.Machine

variable {α : Type}

theorem assocGet?_erase (a b : Nat) (l : List (Nat × α)) :
    assocGet? a (assocErase b l) = if a = b then none else assocGet? a l := by
  induction l with
  | nil => simp [assocErase, assocGet?]
  | cons c t ih =>
    obtain ⟨k, x⟩ := c
    by_cases h : b = k
    · subst h
      by_cases hab : a = b <;> simp_all [assocErase, assocGet?]
    · by_cases hak : a = k
      · subst hak; simp [assocErase, assocGet?, h, Ne.symm h]
      · simp [assocErase, assocGet?, h, hak, ih]

theorem assocGet?_insert (a b : Nat) (x : α) (l : List (Nat × α)) (hb : assocGet? b l = none) :
    assocGet? a (assocInsert b x l) = if a = b then some x else assocGet? a l := by
  induction l with
  | nil => simp [assocInsert, assocGet?]
  | cons c t ih =>
    obtain ⟨k, y⟩ := c
    have hk : b ≠ k := by rintro rfl; simp [assocGet?] at hb
    have ht : assocGet? b t = none := by simpa [assocGet?, hk] using hb
    by_cases h : b < k
    · simp [assocInsert, h, assocGet?]
    · by_cases hak : a = k
      · subst hak; simp [assocInsert, h, assocGet?, Ne.symm hk]
      · simp [assocInsert, h, assocGet?, hak, ih ht]

theorem assocGet?_put (a b : Nat) (x : α) (l : List (Nat × α)) :
    assocGet? a (assocInsert b x (assocErase b l)) = if a = b then some x else assocGet? a l := by
  rw [assocGet?_insert _ _ _ _ (by simp [assocGet?_erase]), assocGet?_erase]
  split <;> simp_all

/-- A read after a write: the value written at its address, what was there elsewhere. -/
theorem Memory.get_set (m : Memory) (a b : Nat) (v : Byte) :
    (m.set a v).get b = if b = a then v else m.get b := by
  unfold Memory.get Memory.set
  simp only [assocGet?_erase]
  by_cases hb : b = a
  · subst hb
    by_cases hv : v = unlisted
    · simp [hv, assocGet?_erase]
    · simp [hv, assocGet?_put]
  · by_cases hv : v = unlisted
    · simp [hv, hb, assocGet?_erase]
    · simp [hv, hb, assocGet?_put]

/-- A read after an open byte is put in: the free value at its address, what was there elsewhere. -/
theorem Memory.get_setOpen (m : Memory) (a b : Nat) (o : OpenByte) :
    (m.setOpen a o).get b = if b = a then openByteValue o else m.get b := by
  unfold Memory.get Memory.setOpen
  simp only [assocGet?_put]
  by_cases hb : b = a
  · subst hb; simp
  · simp [hb, assocGet?_erase]

theorem assocSorted_mono (l : List (Nat × α)) (i j : Nat) (h : i ≤ j)
    (hs : assocSorted (some j) l = true) : assocSorted (some i) l = true := by
  cases l with
  | nil => rfl
  | cons c t =>
    obtain ⟨k, x⟩ := c
    simp only [assocSorted, Bool.and_eq_true, decide_eq_true_eq] at hs ⊢
    exact ⟨lt_of_le_of_lt h hs.1, hs.2⟩

theorem assocSorted_none (l : List (Nat × α)) (i : Nat) (hs : assocSorted (some i) l = true) :
    assocSorted none l = true := by
  cases l with
  | nil => rfl
  | cons c t =>
    simp only [assocSorted, Bool.and_eq_true] at hs ⊢
    exact hs.2

theorem assocSorted_erase (a : Nat) (l : List (Nat × α)) (b : Option Nat) (hs : assocSorted b l = true) :
    assocSorted b (assocErase a l) = true := by
  induction l generalizing b with
  | nil => simpa [assocErase] using hs
  | cons c t ih =>
    obtain ⟨k, x⟩ := c
    by_cases h : a = k
    · simp only [assocErase, h, if_true]
      cases b with
      | none => exact assocSorted_none _ k (ih (some k) (by simpa [assocSorted] using hs) |> fun q => by
          simpa [h] using q)
      | some j =>
        simp only [assocSorted, Bool.and_eq_true, decide_eq_true_eq] at hs
        have := ih (some k) hs.2
        exact assocSorted_mono _ j k hs.1.le (by simpa [h] using this)
    · simp only [assocErase, h, if_false]
      cases b with
      | none => exact ih (some k) (by simpa [assocSorted] using hs)
      | some j =>
        simp only [assocSorted, Bool.and_eq_true] at hs ⊢
        exact ⟨hs.1, ih (some k) hs.2⟩

theorem assocSorted_insert (a : Nat) (x : α) (l : List (Nat × α)) (b : Option Nat)
    (hs : assocSorted b l = true) (ha : assocGet? a l = none) (hb : ∀ j, b = some j → j < a) :
    assocSorted b (assocInsert a x l) = true := by
  induction l generalizing b with
  | nil =>
    cases b with
    | none => rfl
    | some j => simpa [assocInsert, assocSorted] using hb j rfl
  | cons c t ih =>
    obtain ⟨k, y⟩ := c
    have hk : a ≠ k := by rintro rfl; simp [assocGet?] at ha
    have ht : assocGet? a t = none := by simpa [assocGet?, hk] using ha
    by_cases h : a < k
    · simp only [assocInsert, h, if_true]
      cases b with
      | none => simpa [assocSorted, h] using hs
      | some j =>
        simp only [assocSorted, Bool.and_eq_true, decide_eq_true_eq] at hs ⊢
        exact ⟨hb j rfl, h, hs.2⟩
    · have hk' : ∀ j, some k = some j → j < a := by
        intro j hj; cases hj; omega
      simp only [assocInsert, h, if_false]
      cases b with
      | none => exact ih (some k) (by simpa [assocSorted] using hs) ht hk'
      | some j =>
        simp only [assocSorted, Bool.and_eq_true] at hs ⊢
        exact ⟨hs.1, ih (some k) hs.2 ht hk'⟩

theorem mem_assocErase {a : Nat} {l : List (Nat × α)} {c : Nat × α} (h : c ∈ assocErase a l) :
    c ∈ l ∧ c.1 ≠ a := by
  induction l with
  | nil => simp [assocErase] at h
  | cons d t ih =>
    obtain ⟨k, x⟩ := d
    by_cases hk : a = k
    · simp only [assocErase, hk, if_true] at h
      have := ih (by simpa [hk] using h)
      exact ⟨List.mem_cons_of_mem _ this.1, this.2⟩
    · simp only [assocErase, hk, if_false, List.mem_cons] at h
      rcases h with rfl | h
      · exact ⟨List.mem_cons_self, fun e => hk e.symm⟩
      · exact ⟨List.mem_cons_of_mem _ (ih h).1, (ih h).2⟩

theorem mem_assocInsert {a : Nat} {x : α} {l : List (Nat × α)} {c : Nat × α}
    (h : c ∈ assocInsert a x l) : c = (a, x) ∨ c ∈ l := by
  induction l with
  | nil => simpa [assocInsert] using h
  | cons d t ih =>
    obtain ⟨k, y⟩ := d
    by_cases hk : a < k
    · simpa [assocInsert, hk] using h
    · simp only [assocInsert, hk, if_false, List.mem_cons] at h
      rcases h with rfl | h
      · exact .inr List.mem_cons_self
      · exact (ih h).imp id (List.mem_cons_of_mem _)

/-- The canonical form, said without Booleans. -/
theorem Memory.wf_iff (m : Memory) : m.wf = true ↔
    assocSorted none m.cells = true ∧ assocSorted none m.opens = true ∧
    (∀ c ∈ m.cells, c.1 < 2 ^ 24 ∧ c.2 ≠ unlisted) ∧
    (∀ o ∈ m.opens, o.1 < 2 ^ 24 ∧ assocGet? o.1 m.cells = none) := by
  simp only [Memory.wf, Bool.and_eq_true, List.all_eq_true, decide_eq_true_eq, Option.isNone_iff_eq_none]
  tauto

/-- A write keeps the canonical form. -/
theorem Memory.wf_set {m : Memory} (h : m.wf = true) {a : Nat} (ha : a < 2 ^ 24) (v : Byte) :
    (m.set a v).wf = true := by
  rw [Memory.wf_iff] at h ⊢
  obtain ⟨hc, ho, hcell, hopen⟩ := h
  refine ⟨?_, assocSorted_erase _ _ _ ho, ?_, ?_⟩
  · by_cases hv : v = unlisted
    · simpa [Memory.set, hv] using assocSorted_erase a _ _ hc
    · simpa [Memory.set, hv] using assocSorted_insert a v _ _ (assocSorted_erase a _ _ hc)
        (by simp [assocGet?_erase]) (by simp)
  · intro c hmem
    by_cases hv : v = unlisted
    · exact hcell c (mem_assocErase (by simpa [Memory.set, hv] using hmem)).1
    · rcases mem_assocInsert (by simpa [Memory.set, hv] using hmem) with rfl | hmem
      · exact ⟨ha, hv⟩
      · exact hcell c (mem_assocErase hmem).1
  · intro o hmem
    obtain ⟨hin, hne⟩ := mem_assocErase hmem
    refine ⟨(hopen o hin).1, ?_⟩
    by_cases hv : v = unlisted
    · simp [Memory.set, hv, assocGet?_erase, (hopen o hin).2]
    · simp [Memory.set, hv, assocGet?_put, hne, (hopen o hin).2]

/-- Putting an open byte in keeps the canonical form. -/
theorem Memory.wf_setOpen {m : Memory} (h : m.wf = true) {a : Nat} (ha : a < 2 ^ 24) (o : OpenByte) :
    (m.setOpen a o).wf = true := by
  rw [Memory.wf_iff] at h ⊢
  obtain ⟨hc, ho, hcell, hopen⟩ := h
  refine ⟨assocSorted_erase _ _ _ hc, assocSorted_insert a o _ _ (assocSorted_erase a _ _ ho)
    (by simp [assocGet?_erase]) (by simp), ?_, ?_⟩
  · intro c hmem
    exact hcell c (mem_assocErase hmem).1
  · intro p hmem
    rcases mem_assocInsert hmem with rfl | hmem
    · exact ⟨ha, by simp [Memory.setOpen, assocGet?_erase]⟩
    · obtain ⟨hin, hne⟩ := mem_assocErase hmem
      exact ⟨(hopen p hin).1, by simp [Memory.setOpen, assocGet?_erase, (hopen p hin).2]⟩

/-- The memory after reset is in canonical form. -/
theorem reset_mem_wf : State.reset.mem.wf = true := by decide

end Sys2Proof.Machine
end

