-- ==== Sys2Proof/Laws/State.lean ====
section
/-! SUPPORT. Which fields each operation leaves alone: one lemma per field per operation. -/

namespace Sys2Proof.Machine

variable (s : State)

@[simp] theorem State.setReg32_pc (n : ER) (v : Long) : (s.setReg32 n v).pc = s.pc := rfl
@[simp] theorem State.setReg32_ccr (n : ER) (v : Long) : (s.setReg32 n v).ccr = s.ccr := rfl
@[simp] theorem State.setReg32_mem (n : ER) (v : Long) : (s.setReg32 n v).mem = s.mem := rfl
@[simp] theorem State.setReg32_pstate (n : ER) (v : Long) : (s.setReg32 n v).pstate = s.pstate := rfl
@[simp] theorem State.setReg32_irqInhibit (n : ER) (v : Long) : (s.setReg32 n v).irqInhibit = s.irqInhibit := rfl
@[simp] theorem State.setReg32_prefetch (n : ER) (v : Long) : (s.setReg32 n v).prefetch = s.prefetch := rfl
@[simp] theorem State.setReg32_par (n : ER) (v : Long) : (s.setReg32 n v).par = s.par := rfl
@[simp] theorem State.setReg32_ssby (n : ER) (v : Long) : (s.setReg32 n v).ssby = s.ssby := rfl
@[simp] theorem State.setReg32_host (n : ER) (v : Long) : (s.setReg32 n v).host = s.host := rfl
@[simp] theorem State.setReg32_bus (n : ER) (v : Long) : (s.setReg32 n v).bus = s.bus := rfl
@[simp] theorem State.setReg32_draws (n : ER) (v : Long) : (s.setReg32 n v).draws = s.draws := rfl

@[simp] theorem State.setFlag_regs (f : Flag) (x : Bool) : (s.setFlag f x).regs = s.regs := rfl
@[simp] theorem State.setFlag_pc (f : Flag) (x : Bool) : (s.setFlag f x).pc = s.pc := rfl
@[simp] theorem State.setFlag_mem (f : Flag) (x : Bool) : (s.setFlag f x).mem = s.mem := rfl
@[simp] theorem State.setFlag_pstate (f : Flag) (x : Bool) : (s.setFlag f x).pstate = s.pstate := rfl
@[simp] theorem State.setFlag_irqInhibit (f : Flag) (x : Bool) : (s.setFlag f x).irqInhibit = s.irqInhibit := rfl
@[simp] theorem State.setFlag_prefetch (f : Flag) (x : Bool) : (s.setFlag f x).prefetch = s.prefetch := rfl
@[simp] theorem State.setFlag_par (f : Flag) (x : Bool) : (s.setFlag f x).par = s.par := rfl
@[simp] theorem State.setFlag_ssby (f : Flag) (x : Bool) : (s.setFlag f x).ssby = s.ssby := rfl
@[simp] theorem State.setFlag_host (f : Flag) (x : Bool) : (s.setFlag f x).host = s.host := rfl
@[simp] theorem State.setFlag_bus (f : Flag) (x : Bool) : (s.setFlag f x).bus = s.bus := rfl
@[simp] theorem State.setFlag_draws (f : Flag) (x : Bool) : (s.setFlag f x).draws = s.draws := rfl

@[simp] theorem State.setCcr_regs (v : Byte) : (s.setCcr v).regs = s.regs := rfl
@[simp] theorem State.setCcr_pc (v : Byte) : (s.setCcr v).pc = s.pc := rfl
@[simp] theorem State.setCcr_mem (v : Byte) : (s.setCcr v).mem = s.mem := rfl
@[simp] theorem State.setCcr_pstate (v : Byte) : (s.setCcr v).pstate = s.pstate := rfl
@[simp] theorem State.setCcr_irqInhibit (v : Byte) : (s.setCcr v).irqInhibit = s.irqInhibit := rfl
@[simp] theorem State.setCcr_prefetch (v : Byte) : (s.setCcr v).prefetch = s.prefetch := rfl
@[simp] theorem State.setCcr_par (v : Byte) : (s.setCcr v).par = s.par := rfl
@[simp] theorem State.setCcr_ssby (v : Byte) : (s.setCcr v).ssby = s.ssby := rfl
@[simp] theorem State.setCcr_host (v : Byte) : (s.setCcr v).host = s.host := rfl
@[simp] theorem State.setCcr_bus (v : Byte) : (s.setCcr v).bus = s.bus := rfl
@[simp] theorem State.setCcr_draws (v : Byte) : (s.setCcr v).draws = s.draws := rfl

@[simp] theorem State.inhibit_regs : (s.inhibit).regs = s.regs := rfl
@[simp] theorem State.inhibit_pc : (s.inhibit).pc = s.pc := rfl
@[simp] theorem State.inhibit_ccr : (s.inhibit).ccr = s.ccr := rfl
@[simp] theorem State.inhibit_mem : (s.inhibit).mem = s.mem := rfl
@[simp] theorem State.inhibit_pstate : (s.inhibit).pstate = s.pstate := rfl
@[simp] theorem State.inhibit_prefetch : (s.inhibit).prefetch = s.prefetch := rfl
@[simp] theorem State.inhibit_par : (s.inhibit).par = s.par := rfl
@[simp] theorem State.inhibit_ssby : (s.inhibit).ssby = s.ssby := rfl
@[simp] theorem State.inhibit_host : (s.inhibit).host = s.host := rfl
@[simp] theorem State.inhibit_bus : (s.inhibit).bus = s.bus := rfl
@[simp] theorem State.inhibit_draws : (s.inhibit).draws = s.draws := rfl

@[simp] theorem State.jump_pc (t : Addr) : (s.jump t).pc = s.pcForm t := rfl
@[simp] theorem State.advance_pc (k : Nat) : (s.advance k).pc = s.next k := rfl

@[simp] theorem State.jump_regs (t : Addr) : (s.jump t).regs = s.regs := rfl
@[simp] theorem State.jump_ccr (t : Addr) : (s.jump t).ccr = s.ccr := rfl
@[simp] theorem State.jump_mem (t : Addr) : (s.jump t).mem = s.mem := rfl
@[simp] theorem State.jump_pstate (t : Addr) : (s.jump t).pstate = s.pstate := rfl
@[simp] theorem State.jump_irqInhibit (t : Addr) : (s.jump t).irqInhibit = s.irqInhibit := rfl
@[simp] theorem State.jump_prefetch (t : Addr) : (s.jump t).prefetch = s.prefetch := rfl
@[simp] theorem State.jump_par (t : Addr) : (s.jump t).par = s.par := rfl
@[simp] theorem State.jump_ssby (t : Addr) : (s.jump t).ssby = s.ssby := rfl
@[simp] theorem State.jump_host (t : Addr) : (s.jump t).host = s.host := rfl
@[simp] theorem State.jump_bus (t : Addr) : (s.jump t).bus = s.bus := rfl
@[simp] theorem State.jump_draws (t : Addr) : (s.jump t).draws = s.draws := rfl

@[simp] theorem State.advance_regs (n : Nat) : (s.advance n).regs = s.regs := rfl
@[simp] theorem State.advance_ccr (n : Nat) : (s.advance n).ccr = s.ccr := rfl
@[simp] theorem State.advance_mem (n : Nat) : (s.advance n).mem = s.mem := rfl
@[simp] theorem State.advance_pstate (n : Nat) : (s.advance n).pstate = s.pstate := rfl
@[simp] theorem State.advance_irqInhibit (n : Nat) : (s.advance n).irqInhibit = s.irqInhibit := rfl
@[simp] theorem State.advance_prefetch (n : Nat) : (s.advance n).prefetch = s.prefetch := rfl
@[simp] theorem State.advance_par (n : Nat) : (s.advance n).par = s.par := rfl
@[simp] theorem State.advance_ssby (n : Nat) : (s.advance n).ssby = s.ssby := rfl
@[simp] theorem State.advance_host (n : Nat) : (s.advance n).host = s.host := rfl
@[simp] theorem State.advance_bus (n : Nat) : (s.advance n).bus = s.bus := rfl
@[simp] theorem State.advance_draws (n : Nat) : (s.advance n).draws = s.draws := rfl

@[simp] theorem State.drawn_regs : (s.drawn).regs = s.regs := rfl
@[simp] theorem State.drawn_pc : (s.drawn).pc = s.pc := rfl
@[simp] theorem State.drawn_ccr : (s.drawn).ccr = s.ccr := rfl
@[simp] theorem State.drawn_mem : (s.drawn).mem = s.mem := rfl
@[simp] theorem State.drawn_pstate : (s.drawn).pstate = s.pstate := rfl
@[simp] theorem State.drawn_irqInhibit : (s.drawn).irqInhibit = s.irqInhibit := rfl
@[simp] theorem State.drawn_prefetch : (s.drawn).prefetch = s.prefetch := rfl
@[simp] theorem State.drawn_par : (s.drawn).par = s.par := rfl
@[simp] theorem State.drawn_ssby : (s.drawn).ssby = s.ssby := rfl
@[simp] theorem State.drawn_host : (s.drawn).host = s.host := rfl
@[simp] theorem State.drawn_bus : (s.drawn).bus = s.bus := rfl

@[simp] theorem State.tick_regs : (s.tick).regs = s.regs := rfl
@[simp] theorem State.tick_pc : (s.tick).pc = s.pc := rfl
@[simp] theorem State.tick_ccr : (s.tick).ccr = s.ccr := rfl
@[simp] theorem State.tick_mem : (s.tick).mem = s.mem := rfl
@[simp] theorem State.tick_pstate : (s.tick).pstate = s.pstate := rfl
@[simp] theorem State.tick_irqInhibit : (s.tick).irqInhibit = s.irqInhibit := rfl
@[simp] theorem State.tick_prefetch : (s.tick).prefetch = s.prefetch := rfl
@[simp] theorem State.tick_par : (s.tick).par = s.par := rfl
@[simp] theorem State.tick_ssby : (s.tick).ssby = s.ssby := rfl
@[simp] theorem State.tick_bus : (s.tick).bus = s.bus := rfl

@[simp] theorem State.setNZ_regs {w : Nat} (r : BitVec w) : (s.setNZ r).regs = s.regs := by simp [State.setNZ]
@[simp] theorem State.setNZ_pc {w : Nat} (r : BitVec w) : (s.setNZ r).pc = s.pc := by simp [State.setNZ]
@[simp] theorem State.setNZ_mem {w : Nat} (r : BitVec w) : (s.setNZ r).mem = s.mem := by simp [State.setNZ]
@[simp] theorem State.setNZ_pstate {w : Nat} (r : BitVec w) : (s.setNZ r).pstate = s.pstate := by simp [State.setNZ]
@[simp] theorem State.setNZ_irqInhibit {w : Nat} (r : BitVec w) : (s.setNZ r).irqInhibit = s.irqInhibit := by simp [State.setNZ]
@[simp] theorem State.setNZ_prefetch {w : Nat} (r : BitVec w) : (s.setNZ r).prefetch = s.prefetch := by simp [State.setNZ]
@[simp] theorem State.setNZ_par {w : Nat} (r : BitVec w) : (s.setNZ r).par = s.par := by simp [State.setNZ]
@[simp] theorem State.setNZ_ssby {w : Nat} (r : BitVec w) : (s.setNZ r).ssby = s.ssby := by simp [State.setNZ]
@[simp] theorem State.setNZ_host {w : Nat} (r : BitVec w) : (s.setNZ r).host = s.host := by simp [State.setNZ]
@[simp] theorem State.setNZ_bus {w : Nat} (r : BitVec w) : (s.setNZ r).bus = s.bus := by simp [State.setNZ]
@[simp] theorem State.setNZ_draws {w : Nat} (r : BitVec w) : (s.setNZ r).draws = s.draws := by simp [State.setNZ]

@[simp] theorem State.setNZV0_regs {w : Nat} (r : BitVec w) : (s.setNZV0 r).regs = s.regs := by simp [State.setNZV0]
@[simp] theorem State.setNZV0_pc {w : Nat} (r : BitVec w) : (s.setNZV0 r).pc = s.pc := by simp [State.setNZV0]
@[simp] theorem State.setNZV0_mem {w : Nat} (r : BitVec w) : (s.setNZV0 r).mem = s.mem := by simp [State.setNZV0]
@[simp] theorem State.setNZV0_pstate {w : Nat} (r : BitVec w) : (s.setNZV0 r).pstate = s.pstate := by simp [State.setNZV0]
@[simp] theorem State.setNZV0_irqInhibit {w : Nat} (r : BitVec w) : (s.setNZV0 r).irqInhibit = s.irqInhibit := by simp [State.setNZV0]
@[simp] theorem State.setNZV0_prefetch {w : Nat} (r : BitVec w) : (s.setNZV0 r).prefetch = s.prefetch := by simp [State.setNZV0]
@[simp] theorem State.setNZV0_par {w : Nat} (r : BitVec w) : (s.setNZV0 r).par = s.par := by simp [State.setNZV0]
@[simp] theorem State.setNZV0_ssby {w : Nat} (r : BitVec w) : (s.setNZV0 r).ssby = s.ssby := by simp [State.setNZV0]
@[simp] theorem State.setNZV0_host {w : Nat} (r : BitVec w) : (s.setNZV0 r).host = s.host := by simp [State.setNZV0]
@[simp] theorem State.setNZV0_bus {w : Nat} (r : BitVec w) : (s.setNZV0 r).bus = s.bus := by simp [State.setNZV0]
@[simp] theorem State.setNZV0_draws {w : Nat} (r : BitVec w) : (s.setNZV0 r).draws = s.draws := by simp [State.setNZV0]

@[simp] theorem State.setAddFlags_regs {w : Nat} (a b : BitVec w) (c : Bool) : (s.setAddFlags a b c).regs = s.regs := by simp [State.setAddFlags]
@[simp] theorem State.setAddFlags_pc {w : Nat} (a b : BitVec w) (c : Bool) : (s.setAddFlags a b c).pc = s.pc := by simp [State.setAddFlags]
@[simp] theorem State.setAddFlags_mem {w : Nat} (a b : BitVec w) (c : Bool) : (s.setAddFlags a b c).mem = s.mem := by simp [State.setAddFlags]
@[simp] theorem State.setAddFlags_pstate {w : Nat} (a b : BitVec w) (c : Bool) : (s.setAddFlags a b c).pstate = s.pstate := by simp [State.setAddFlags]
@[simp] theorem State.setAddFlags_irqInhibit {w : Nat} (a b : BitVec w) (c : Bool) : (s.setAddFlags a b c).irqInhibit = s.irqInhibit := by simp [State.setAddFlags]
@[simp] theorem State.setAddFlags_prefetch {w : Nat} (a b : BitVec w) (c : Bool) : (s.setAddFlags a b c).prefetch = s.prefetch := by simp [State.setAddFlags]
@[simp] theorem State.setAddFlags_par {w : Nat} (a b : BitVec w) (c : Bool) : (s.setAddFlags a b c).par = s.par := by simp [State.setAddFlags]
@[simp] theorem State.setAddFlags_ssby {w : Nat} (a b : BitVec w) (c : Bool) : (s.setAddFlags a b c).ssby = s.ssby := by simp [State.setAddFlags]
@[simp] theorem State.setAddFlags_host {w : Nat} (a b : BitVec w) (c : Bool) : (s.setAddFlags a b c).host = s.host := by simp [State.setAddFlags]
@[simp] theorem State.setAddFlags_bus {w : Nat} (a b : BitVec w) (c : Bool) : (s.setAddFlags a b c).bus = s.bus := by simp [State.setAddFlags]
@[simp] theorem State.setAddFlags_draws {w : Nat} (a b : BitVec w) (c : Bool) : (s.setAddFlags a b c).draws = s.draws := by simp [State.setAddFlags]

@[simp] theorem State.setSubFlags_regs {w : Nat} (a b : BitVec w) (c : Bool) : (s.setSubFlags a b c).regs = s.regs := by simp [State.setSubFlags]
@[simp] theorem State.setSubFlags_pc {w : Nat} (a b : BitVec w) (c : Bool) : (s.setSubFlags a b c).pc = s.pc := by simp [State.setSubFlags]
@[simp] theorem State.setSubFlags_mem {w : Nat} (a b : BitVec w) (c : Bool) : (s.setSubFlags a b c).mem = s.mem := by simp [State.setSubFlags]
@[simp] theorem State.setSubFlags_pstate {w : Nat} (a b : BitVec w) (c : Bool) : (s.setSubFlags a b c).pstate = s.pstate := by simp [State.setSubFlags]
@[simp] theorem State.setSubFlags_irqInhibit {w : Nat} (a b : BitVec w) (c : Bool) : (s.setSubFlags a b c).irqInhibit = s.irqInhibit := by simp [State.setSubFlags]
@[simp] theorem State.setSubFlags_prefetch {w : Nat} (a b : BitVec w) (c : Bool) : (s.setSubFlags a b c).prefetch = s.prefetch := by simp [State.setSubFlags]
@[simp] theorem State.setSubFlags_par {w : Nat} (a b : BitVec w) (c : Bool) : (s.setSubFlags a b c).par = s.par := by simp [State.setSubFlags]
@[simp] theorem State.setSubFlags_ssby {w : Nat} (a b : BitVec w) (c : Bool) : (s.setSubFlags a b c).ssby = s.ssby := by simp [State.setSubFlags]
@[simp] theorem State.setSubFlags_host {w : Nat} (a b : BitVec w) (c : Bool) : (s.setSubFlags a b c).host = s.host := by simp [State.setSubFlags]
@[simp] theorem State.setSubFlags_bus {w : Nat} (a b : BitVec w) (c : Bool) : (s.setSubFlags a b c).bus = s.bus := by simp [State.setSubFlags]
@[simp] theorem State.setSubFlags_draws {w : Nat} (a b : BitVec w) (c : Bool) : (s.setSubFlags a b c).draws = s.draws := by simp [State.setSubFlags]

@[simp] theorem State.stickyZ_regs {w : Nat} (z : Bool) (r : BitVec w) : (s.stickyZ z r).regs = s.regs := by simp [State.stickyZ]
@[simp] theorem State.stickyZ_pc {w : Nat} (z : Bool) (r : BitVec w) : (s.stickyZ z r).pc = s.pc := by simp [State.stickyZ]
@[simp] theorem State.stickyZ_mem {w : Nat} (z : Bool) (r : BitVec w) : (s.stickyZ z r).mem = s.mem := by simp [State.stickyZ]
@[simp] theorem State.stickyZ_pstate {w : Nat} (z : Bool) (r : BitVec w) : (s.stickyZ z r).pstate = s.pstate := by simp [State.stickyZ]
@[simp] theorem State.stickyZ_irqInhibit {w : Nat} (z : Bool) (r : BitVec w) : (s.stickyZ z r).irqInhibit = s.irqInhibit := by simp [State.stickyZ]
@[simp] theorem State.stickyZ_prefetch {w : Nat} (z : Bool) (r : BitVec w) : (s.stickyZ z r).prefetch = s.prefetch := by simp [State.stickyZ]
@[simp] theorem State.stickyZ_par {w : Nat} (z : Bool) (r : BitVec w) : (s.stickyZ z r).par = s.par := by simp [State.stickyZ]
@[simp] theorem State.stickyZ_ssby {w : Nat} (z : Bool) (r : BitVec w) : (s.stickyZ z r).ssby = s.ssby := by simp [State.stickyZ]
@[simp] theorem State.stickyZ_host {w : Nat} (z : Bool) (r : BitVec w) : (s.stickyZ z r).host = s.host := by simp [State.stickyZ]
@[simp] theorem State.stickyZ_bus {w : Nat} (z : Bool) (r : BitVec w) : (s.stickyZ z r).bus = s.bus := by simp [State.stickyZ]
@[simp] theorem State.stickyZ_draws {w : Nat} (z : Bool) (r : BitVec w) : (s.stickyZ z r).draws = s.draws := by simp [State.stickyZ]

@[simp] theorem State.setDivFlags_regs (n z : Bool) : (s.setDivFlags n z).regs = s.regs := by simp [State.setDivFlags]
@[simp] theorem State.setDivFlags_pc (n z : Bool) : (s.setDivFlags n z).pc = s.pc := by simp [State.setDivFlags]
@[simp] theorem State.setDivFlags_mem (n z : Bool) : (s.setDivFlags n z).mem = s.mem := by simp [State.setDivFlags]
@[simp] theorem State.setDivFlags_pstate (n z : Bool) : (s.setDivFlags n z).pstate = s.pstate := by simp [State.setDivFlags]
@[simp] theorem State.setDivFlags_irqInhibit (n z : Bool) : (s.setDivFlags n z).irqInhibit = s.irqInhibit := by simp [State.setDivFlags]
@[simp] theorem State.setDivFlags_prefetch (n z : Bool) : (s.setDivFlags n z).prefetch = s.prefetch := by simp [State.setDivFlags]
@[simp] theorem State.setDivFlags_par (n z : Bool) : (s.setDivFlags n z).par = s.par := by simp [State.setDivFlags]
@[simp] theorem State.setDivFlags_ssby (n z : Bool) : (s.setDivFlags n z).ssby = s.ssby := by simp [State.setDivFlags]
@[simp] theorem State.setDivFlags_host (n z : Bool) : (s.setDivFlags n z).host = s.host := by simp [State.setDivFlags]
@[simp] theorem State.setDivFlags_bus (n z : Bool) : (s.setDivFlags n z).bus = s.bus := by simp [State.setDivFlags]
@[simp] theorem State.setDivFlags_draws (n z : Bool) : (s.setDivFlags n z).draws = s.draws := by simp [State.setDivFlags]

@[simp] theorem State.setShiftFlags_regs {w : Nat} (x : Shifted w) : (s.setShiftFlags x).regs = s.regs := by simp [State.setShiftFlags]
@[simp] theorem State.setShiftFlags_pc {w : Nat} (x : Shifted w) : (s.setShiftFlags x).pc = s.pc := by simp [State.setShiftFlags]
@[simp] theorem State.setShiftFlags_mem {w : Nat} (x : Shifted w) : (s.setShiftFlags x).mem = s.mem := by simp [State.setShiftFlags]
@[simp] theorem State.setShiftFlags_pstate {w : Nat} (x : Shifted w) : (s.setShiftFlags x).pstate = s.pstate := by simp [State.setShiftFlags]
@[simp] theorem State.setShiftFlags_irqInhibit {w : Nat} (x : Shifted w) : (s.setShiftFlags x).irqInhibit = s.irqInhibit := by simp [State.setShiftFlags]
@[simp] theorem State.setShiftFlags_prefetch {w : Nat} (x : Shifted w) : (s.setShiftFlags x).prefetch = s.prefetch := by simp [State.setShiftFlags]
@[simp] theorem State.setShiftFlags_par {w : Nat} (x : Shifted w) : (s.setShiftFlags x).par = s.par := by simp [State.setShiftFlags]
@[simp] theorem State.setShiftFlags_ssby {w : Nat} (x : Shifted w) : (s.setShiftFlags x).ssby = s.ssby := by simp [State.setShiftFlags]
@[simp] theorem State.setShiftFlags_host {w : Nat} (x : Shifted w) : (s.setShiftFlags x).host = s.host := by simp [State.setShiftFlags]
@[simp] theorem State.setShiftFlags_bus {w : Nat} (x : Shifted w) : (s.setShiftFlags x).bus = s.bus := by simp [State.setShiftFlags]
@[simp] theorem State.setShiftFlags_draws {w : Nat} (x : Shifted w) : (s.setShiftFlags x).draws = s.draws := by simp [State.setShiftFlags]

@[simp] theorem State.setReg16_pc (r : R16) (v : Word) : (s.setReg16 r v).pc = s.pc := by cases r <;> rfl
@[simp] theorem State.setReg16_ccr (r : R16) (v : Word) : (s.setReg16 r v).ccr = s.ccr := by cases r <;> rfl
@[simp] theorem State.setReg16_mem (r : R16) (v : Word) : (s.setReg16 r v).mem = s.mem := by cases r <;> rfl
@[simp] theorem State.setReg16_pstate (r : R16) (v : Word) : (s.setReg16 r v).pstate = s.pstate := by cases r <;> rfl
@[simp] theorem State.setReg16_irqInhibit (r : R16) (v : Word) : (s.setReg16 r v).irqInhibit = s.irqInhibit := by cases r <;> rfl
@[simp] theorem State.setReg16_prefetch (r : R16) (v : Word) : (s.setReg16 r v).prefetch = s.prefetch := by cases r <;> rfl
@[simp] theorem State.setReg16_par (r : R16) (v : Word) : (s.setReg16 r v).par = s.par := by cases r <;> rfl
@[simp] theorem State.setReg16_ssby (r : R16) (v : Word) : (s.setReg16 r v).ssby = s.ssby := by cases r <;> rfl
@[simp] theorem State.setReg16_host (r : R16) (v : Word) : (s.setReg16 r v).host = s.host := by cases r <;> rfl
@[simp] theorem State.setReg16_bus (r : R16) (v : Word) : (s.setReg16 r v).bus = s.bus := by cases r <;> rfl
@[simp] theorem State.setReg16_draws (r : R16) (v : Word) : (s.setReg16 r v).draws = s.draws := by cases r <;> rfl

@[simp] theorem State.setReg8_pc (r : R8) (v : Byte) : (s.setReg8 r v).pc = s.pc := by cases r <;> rfl
@[simp] theorem State.setReg8_ccr (r : R8) (v : Byte) : (s.setReg8 r v).ccr = s.ccr := by cases r <;> rfl
@[simp] theorem State.setReg8_mem (r : R8) (v : Byte) : (s.setReg8 r v).mem = s.mem := by cases r <;> rfl
@[simp] theorem State.setReg8_pstate (r : R8) (v : Byte) : (s.setReg8 r v).pstate = s.pstate := by cases r <;> rfl
@[simp] theorem State.setReg8_irqInhibit (r : R8) (v : Byte) : (s.setReg8 r v).irqInhibit = s.irqInhibit := by cases r <;> rfl
@[simp] theorem State.setReg8_prefetch (r : R8) (v : Byte) : (s.setReg8 r v).prefetch = s.prefetch := by cases r <;> rfl
@[simp] theorem State.setReg8_par (r : R8) (v : Byte) : (s.setReg8 r v).par = s.par := by cases r <;> rfl
@[simp] theorem State.setReg8_ssby (r : R8) (v : Byte) : (s.setReg8 r v).ssby = s.ssby := by cases r <;> rfl
@[simp] theorem State.setReg8_host (r : R8) (v : Byte) : (s.setReg8 r v).host = s.host := by cases r <;> rfl
@[simp] theorem State.setReg8_bus (r : R8) (v : Byte) : (s.setReg8 r v).bus = s.bus := by cases r <;> rfl
@[simp] theorem State.setReg8_draws (r : R8) (v : Byte) : (s.setReg8 r v).draws = s.draws := by cases r <;> rfl

@[simp] theorem State.maskInterrupts_regs : (s.maskInterrupts).regs = s.regs := by unfold State.maskInterrupts; split <;> rfl
@[simp] theorem State.maskInterrupts_pc : (s.maskInterrupts).pc = s.pc := by unfold State.maskInterrupts; split <;> rfl
@[simp] theorem State.maskInterrupts_mem : (s.maskInterrupts).mem = s.mem := by unfold State.maskInterrupts; split <;> rfl
@[simp] theorem State.maskInterrupts_pstate : (s.maskInterrupts).pstate = s.pstate := by unfold State.maskInterrupts; split <;> rfl
@[simp] theorem State.maskInterrupts_irqInhibit : (s.maskInterrupts).irqInhibit = s.irqInhibit := by unfold State.maskInterrupts; split <;> rfl
@[simp] theorem State.maskInterrupts_prefetch : (s.maskInterrupts).prefetch = s.prefetch := by unfold State.maskInterrupts; split <;> rfl
@[simp] theorem State.maskInterrupts_par : (s.maskInterrupts).par = s.par := by unfold State.maskInterrupts; split <;> rfl
@[simp] theorem State.maskInterrupts_ssby : (s.maskInterrupts).ssby = s.ssby := by unfold State.maskInterrupts; split <;> rfl
@[simp] theorem State.maskInterrupts_host : (s.maskInterrupts).host = s.host := by unfold State.maskInterrupts; split <;> rfl
@[simp] theorem State.maskInterrupts_bus : (s.maskInterrupts).bus = s.bus := by unfold State.maskInterrupts; split <;> rfl
@[simp] theorem State.maskInterrupts_draws : (s.maskInterrupts).draws = s.draws := by unfold State.maskInterrupts; split <;> rfl

@[simp] theorem State.written_regs (p : Addr) (c : BusCycle) (m : Memory) : (s.written p c m).regs = s.regs := by unfold State.written; split <;> rfl
@[simp] theorem State.written_pc (p : Addr) (c : BusCycle) (m : Memory) : (s.written p c m).pc = s.pc := by unfold State.written; split <;> rfl
@[simp] theorem State.written_ccr (p : Addr) (c : BusCycle) (m : Memory) : (s.written p c m).ccr = s.ccr := by unfold State.written; split <;> rfl
@[simp] theorem State.written_pstate (p : Addr) (c : BusCycle) (m : Memory) : (s.written p c m).pstate = s.pstate := by unfold State.written; split <;> rfl
@[simp] theorem State.written_irqInhibit (p : Addr) (c : BusCycle) (m : Memory) : (s.written p c m).irqInhibit = s.irqInhibit := by unfold State.written; split <;> rfl
@[simp] theorem State.written_prefetch (p : Addr) (c : BusCycle) (m : Memory) : (s.written p c m).prefetch = s.prefetch := by unfold State.written; split <;> rfl
@[simp] theorem State.written_par (p : Addr) (c : BusCycle) (m : Memory) : (s.written p c m).par = s.par := by unfold State.written; split <;> rfl
@[simp] theorem State.written_ssby (p : Addr) (c : BusCycle) (m : Memory) : (s.written p c m).ssby = s.ssby := by unfold State.written; split <;> rfl
@[simp] theorem State.written_host (p : Addr) (c : BusCycle) (m : Memory) : (s.written p c m).host = s.host := by unfold State.written; split <;> rfl
@[simp] theorem State.written_draws (p : Addr) (c : BusCycle) (m : Memory) : (s.written p c m).draws = s.draws := by unfold State.written; split <;> rfl

@[simp] theorem State.storeB_regs (a : Addr) (v : Byte) : (s.storeB a v).regs = s.regs := by simp [State.storeB]
@[simp] theorem State.storeB_pc (a : Addr) (v : Byte) : (s.storeB a v).pc = s.pc := by simp [State.storeB]
@[simp] theorem State.storeB_ccr (a : Addr) (v : Byte) : (s.storeB a v).ccr = s.ccr := by simp [State.storeB]
@[simp] theorem State.storeB_pstate (a : Addr) (v : Byte) : (s.storeB a v).pstate = s.pstate := by simp [State.storeB]
@[simp] theorem State.storeB_irqInhibit (a : Addr) (v : Byte) : (s.storeB a v).irqInhibit = s.irqInhibit := by simp [State.storeB]
@[simp] theorem State.storeB_prefetch (a : Addr) (v : Byte) : (s.storeB a v).prefetch = s.prefetch := by simp [State.storeB]
@[simp] theorem State.storeB_par (a : Addr) (v : Byte) : (s.storeB a v).par = s.par := by simp [State.storeB]
@[simp] theorem State.storeB_ssby (a : Addr) (v : Byte) : (s.storeB a v).ssby = s.ssby := by simp [State.storeB]
@[simp] theorem State.storeB_host (a : Addr) (v : Byte) : (s.storeB a v).host = s.host := by simp [State.storeB]
@[simp] theorem State.storeB_draws (a : Addr) (v : Byte) : (s.storeB a v).draws = s.draws := by simp [State.storeB]

@[simp] theorem State.storeBytes_regs (a : Addr) (h l : StoredByte) : (s.storeBytes a h l).regs = s.regs := by simp [State.storeBytes]
@[simp] theorem State.storeBytes_pc (a : Addr) (h l : StoredByte) : (s.storeBytes a h l).pc = s.pc := by simp [State.storeBytes]
@[simp] theorem State.storeBytes_ccr (a : Addr) (h l : StoredByte) : (s.storeBytes a h l).ccr = s.ccr := by simp [State.storeBytes]
@[simp] theorem State.storeBytes_pstate (a : Addr) (h l : StoredByte) : (s.storeBytes a h l).pstate = s.pstate := by simp [State.storeBytes]
@[simp] theorem State.storeBytes_irqInhibit (a : Addr) (h l : StoredByte) : (s.storeBytes a h l).irqInhibit = s.irqInhibit := by simp [State.storeBytes]
@[simp] theorem State.storeBytes_prefetch (a : Addr) (h l : StoredByte) : (s.storeBytes a h l).prefetch = s.prefetch := by simp [State.storeBytes]
@[simp] theorem State.storeBytes_par (a : Addr) (h l : StoredByte) : (s.storeBytes a h l).par = s.par := by simp [State.storeBytes]
@[simp] theorem State.storeBytes_ssby (a : Addr) (h l : StoredByte) : (s.storeBytes a h l).ssby = s.ssby := by simp [State.storeBytes]
@[simp] theorem State.storeBytes_host (a : Addr) (h l : StoredByte) : (s.storeBytes a h l).host = s.host := by simp [State.storeBytes]
@[simp] theorem State.storeBytes_draws (a : Addr) (h l : StoredByte) : (s.storeBytes a h l).draws = s.draws := by simp [State.storeBytes]

@[simp] theorem State.storeW_regs (a : Addr) (v : Word) : (s.storeW a v).regs = s.regs := by simp [State.storeW]
@[simp] theorem State.storeW_pc (a : Addr) (v : Word) : (s.storeW a v).pc = s.pc := by simp [State.storeW]
@[simp] theorem State.storeW_ccr (a : Addr) (v : Word) : (s.storeW a v).ccr = s.ccr := by simp [State.storeW]
@[simp] theorem State.storeW_pstate (a : Addr) (v : Word) : (s.storeW a v).pstate = s.pstate := by simp [State.storeW]
@[simp] theorem State.storeW_irqInhibit (a : Addr) (v : Word) : (s.storeW a v).irqInhibit = s.irqInhibit := by simp [State.storeW]
@[simp] theorem State.storeW_prefetch (a : Addr) (v : Word) : (s.storeW a v).prefetch = s.prefetch := by simp [State.storeW]
@[simp] theorem State.storeW_par (a : Addr) (v : Word) : (s.storeW a v).par = s.par := by simp [State.storeW]
@[simp] theorem State.storeW_ssby (a : Addr) (v : Word) : (s.storeW a v).ssby = s.ssby := by simp [State.storeW]
@[simp] theorem State.storeW_host (a : Addr) (v : Word) : (s.storeW a v).host = s.host := by simp [State.storeW]
@[simp] theorem State.storeW_draws (a : Addr) (v : Word) : (s.storeW a v).draws = s.draws := by simp [State.storeW]

@[simp] theorem State.storeL_regs (a : Addr) (v : Long) : (s.storeL a v).regs = s.regs := by simp [State.storeL]
@[simp] theorem State.storeL_pc (a : Addr) (v : Long) : (s.storeL a v).pc = s.pc := by simp [State.storeL]
@[simp] theorem State.storeL_ccr (a : Addr) (v : Long) : (s.storeL a v).ccr = s.ccr := by simp [State.storeL]
@[simp] theorem State.storeL_pstate (a : Addr) (v : Long) : (s.storeL a v).pstate = s.pstate := by simp [State.storeL]
@[simp] theorem State.storeL_irqInhibit (a : Addr) (v : Long) : (s.storeL a v).irqInhibit = s.irqInhibit := by simp [State.storeL]
@[simp] theorem State.storeL_prefetch (a : Addr) (v : Long) : (s.storeL a v).prefetch = s.prefetch := by simp [State.storeL]
@[simp] theorem State.storeL_par (a : Addr) (v : Long) : (s.storeL a v).par = s.par := by simp [State.storeL]
@[simp] theorem State.storeL_ssby (a : Addr) (v : Long) : (s.storeL a v).ssby = s.ssby := by simp [State.storeL]
@[simp] theorem State.storeL_host (a : Addr) (v : Long) : (s.storeL a v).host = s.host := by simp [State.storeL]
@[simp] theorem State.storeL_draws (a : Addr) (v : Long) : (s.storeL a v).draws = s.draws := by simp [State.storeL]

@[simp] theorem State.seen_regs (p : Addr) (c : BusCycle) : (s.seen p c).regs = s.regs := by unfold State.seen; split <;> rfl
@[simp] theorem State.seen_pc (p : Addr) (c : BusCycle) : (s.seen p c).pc = s.pc := by unfold State.seen; split <;> rfl
@[simp] theorem State.seen_ccr (p : Addr) (c : BusCycle) : (s.seen p c).ccr = s.ccr := by unfold State.seen; split <;> rfl
@[simp] theorem State.seen_mem (p : Addr) (c : BusCycle) : (s.seen p c).mem = s.mem := by unfold State.seen; split <;> rfl
@[simp] theorem State.seen_pstate (p : Addr) (c : BusCycle) : (s.seen p c).pstate = s.pstate := by unfold State.seen; split <;> rfl
@[simp] theorem State.seen_irqInhibit (p : Addr) (c : BusCycle) : (s.seen p c).irqInhibit = s.irqInhibit := by unfold State.seen; split <;> rfl
@[simp] theorem State.seen_prefetch (p : Addr) (c : BusCycle) : (s.seen p c).prefetch = s.prefetch := by unfold State.seen; split <;> rfl
@[simp] theorem State.seen_par (p : Addr) (c : BusCycle) : (s.seen p c).par = s.par := by unfold State.seen; split <;> rfl
@[simp] theorem State.seen_ssby (p : Addr) (c : BusCycle) : (s.seen p c).ssby = s.ssby := by unfold State.seen; split <;> rfl
@[simp] theorem State.seen_host (p : Addr) (c : BusCycle) : (s.seen p c).host = s.host := by unfold State.seen; split <;> rfl

@[simp] theorem State.seeB_regs (a : Addr) : (s.seeB a).regs = s.regs := by simp [State.seeB]
@[simp] theorem State.seeB_pc (a : Addr) : (s.seeB a).pc = s.pc := by simp [State.seeB]
@[simp] theorem State.seeB_ccr (a : Addr) : (s.seeB a).ccr = s.ccr := by simp [State.seeB]
@[simp] theorem State.seeB_mem (a : Addr) : (s.seeB a).mem = s.mem := by simp [State.seeB]
@[simp] theorem State.seeB_pstate (a : Addr) : (s.seeB a).pstate = s.pstate := by simp [State.seeB]
@[simp] theorem State.seeB_irqInhibit (a : Addr) : (s.seeB a).irqInhibit = s.irqInhibit := by simp [State.seeB]
@[simp] theorem State.seeB_prefetch (a : Addr) : (s.seeB a).prefetch = s.prefetch := by simp [State.seeB]
@[simp] theorem State.seeB_par (a : Addr) : (s.seeB a).par = s.par := by simp [State.seeB]
@[simp] theorem State.seeB_ssby (a : Addr) : (s.seeB a).ssby = s.ssby := by simp [State.seeB]
@[simp] theorem State.seeB_host (a : Addr) : (s.seeB a).host = s.host := by simp [State.seeB]

@[simp] theorem State.seeW_regs (a : Addr) : (s.seeW a).regs = s.regs := by simp [State.seeW]
@[simp] theorem State.seeW_pc (a : Addr) : (s.seeW a).pc = s.pc := by simp [State.seeW]
@[simp] theorem State.seeW_ccr (a : Addr) : (s.seeW a).ccr = s.ccr := by simp [State.seeW]
@[simp] theorem State.seeW_mem (a : Addr) : (s.seeW a).mem = s.mem := by simp [State.seeW]
@[simp] theorem State.seeW_pstate (a : Addr) : (s.seeW a).pstate = s.pstate := by simp [State.seeW]
@[simp] theorem State.seeW_irqInhibit (a : Addr) : (s.seeW a).irqInhibit = s.irqInhibit := by simp [State.seeW]
@[simp] theorem State.seeW_prefetch (a : Addr) : (s.seeW a).prefetch = s.prefetch := by simp [State.seeW]
@[simp] theorem State.seeW_par (a : Addr) : (s.seeW a).par = s.par := by simp [State.seeW]
@[simp] theorem State.seeW_ssby (a : Addr) : (s.seeW a).ssby = s.ssby := by simp [State.seeW]
@[simp] theorem State.seeW_host (a : Addr) : (s.seeW a).host = s.host := by simp [State.seeW]

@[simp] theorem State.seeL_regs (a : Addr) : (s.seeL a).regs = s.regs := by simp [State.seeL]
@[simp] theorem State.seeL_pc (a : Addr) : (s.seeL a).pc = s.pc := by simp [State.seeL]
@[simp] theorem State.seeL_ccr (a : Addr) : (s.seeL a).ccr = s.ccr := by simp [State.seeL]
@[simp] theorem State.seeL_mem (a : Addr) : (s.seeL a).mem = s.mem := by simp [State.seeL]
@[simp] theorem State.seeL_pstate (a : Addr) : (s.seeL a).pstate = s.pstate := by simp [State.seeL]
@[simp] theorem State.seeL_irqInhibit (a : Addr) : (s.seeL a).irqInhibit = s.irqInhibit := by simp [State.seeL]
@[simp] theorem State.seeL_prefetch (a : Addr) : (s.seeL a).prefetch = s.prefetch := by simp [State.seeL]
@[simp] theorem State.seeL_par (a : Addr) : (s.seeL a).par = s.par := by simp [State.seeL]
@[simp] theorem State.seeL_ssby (a : Addr) : (s.seeL a).ssby = s.ssby := by simp [State.seeL]
@[simp] theorem State.seeL_host (a : Addr) : (s.seeL a).host = s.host := by simp [State.seeL]

@[simp] theorem State.seePointer_regs (a : Addr) : (s.seePointer a).regs = s.regs := by unfold State.seePointer; split <;> simp
@[simp] theorem State.seePointer_pc (a : Addr) : (s.seePointer a).pc = s.pc := by unfold State.seePointer; split <;> simp
@[simp] theorem State.seePointer_ccr (a : Addr) : (s.seePointer a).ccr = s.ccr := by unfold State.seePointer; split <;> simp
@[simp] theorem State.seePointer_mem (a : Addr) : (s.seePointer a).mem = s.mem := by unfold State.seePointer; split <;> simp
@[simp] theorem State.seePointer_pstate (a : Addr) : (s.seePointer a).pstate = s.pstate := by unfold State.seePointer; split <;> simp
@[simp] theorem State.seePointer_irqInhibit (a : Addr) : (s.seePointer a).irqInhibit = s.irqInhibit := by unfold State.seePointer; split <;> simp
@[simp] theorem State.seePointer_prefetch (a : Addr) : (s.seePointer a).prefetch = s.prefetch := by unfold State.seePointer; split <;> simp
@[simp] theorem State.seePointer_par (a : Addr) : (s.seePointer a).par = s.par := by unfold State.seePointer; split <;> simp
@[simp] theorem State.seePointer_ssby (a : Addr) : (s.seePointer a).ssby = s.ssby := by unfold State.seePointer; split <;> simp
@[simp] theorem State.seePointer_host (a : Addr) : (s.seePointer a).host = s.host := by unfold State.seePointer; split <;> simp

@[simp] theorem State.pushReturn_pc (ret : Addr) : (s.pushReturn ret).pc = s.pc := by unfold State.pushReturn; split <;> simp
@[simp] theorem State.pushReturn_ccr (ret : Addr) : (s.pushReturn ret).ccr = s.ccr := by unfold State.pushReturn; split <;> simp
@[simp] theorem State.pushReturn_pstate (ret : Addr) : (s.pushReturn ret).pstate = s.pstate := by unfold State.pushReturn; split <;> simp
@[simp] theorem State.pushReturn_irqInhibit (ret : Addr) : (s.pushReturn ret).irqInhibit = s.irqInhibit := by unfold State.pushReturn; split <;> simp
@[simp] theorem State.pushReturn_prefetch (ret : Addr) : (s.pushReturn ret).prefetch = s.prefetch := by unfold State.pushReturn; split <;> simp
@[simp] theorem State.pushReturn_par (ret : Addr) : (s.pushReturn ret).par = s.par := by unfold State.pushReturn; split <;> simp
@[simp] theorem State.pushReturn_ssby (ret : Addr) : (s.pushReturn ret).ssby = s.ssby := by unfold State.pushReturn; split <;> simp
@[simp] theorem State.pushReturn_host (ret : Addr) : (s.pushReturn ret).host = s.host := by unfold State.pushReturn; split <;> simp

@[simp] theorem State.pushFrame_pc (ret : Addr) : (s.pushFrame ret).pc = s.pc := by simp [State.pushFrame]
@[simp] theorem State.pushFrame_ccr (ret : Addr) : (s.pushFrame ret).ccr = s.ccr := by simp [State.pushFrame]
@[simp] theorem State.pushFrame_pstate (ret : Addr) : (s.pushFrame ret).pstate = s.pstate := by simp [State.pushFrame]
@[simp] theorem State.pushFrame_irqInhibit (ret : Addr) : (s.pushFrame ret).irqInhibit = s.irqInhibit := by simp [State.pushFrame]
@[simp] theorem State.pushFrame_prefetch (ret : Addr) : (s.pushFrame ret).prefetch = s.prefetch := by simp [State.pushFrame]
@[simp] theorem State.pushFrame_par (ret : Addr) : (s.pushFrame ret).par = s.par := by simp [State.pushFrame]
@[simp] theorem State.pushFrame_ssby (ret : Addr) : (s.pushFrame ret).ssby = s.ssby := by simp [State.pushFrame]
@[simp] theorem State.pushFrame_host (ret : Addr) : (s.pushFrame ret).host = s.host := by simp [State.pushFrame]
@[simp] theorem State.pushFrame_draws (ret : Addr) : (s.pushFrame ret).draws = s.draws := by simp [State.pushFrame]

@[simp] theorem State.enterVector_regs (k : Byte) : (s.enterVector k).regs = s.regs := by simp [State.enterVector]
@[simp] theorem State.enterVector_ccr (k : Byte) : (s.enterVector k).ccr = s.ccr := by simp [State.enterVector]
@[simp] theorem State.enterVector_mem (k : Byte) : (s.enterVector k).mem = s.mem := by simp [State.enterVector]
@[simp] theorem State.enterVector_irqInhibit (k : Byte) : (s.enterVector k).irqInhibit = s.irqInhibit := by simp [State.enterVector]
@[simp] theorem State.enterVector_par (k : Byte) : (s.enterVector k).par = s.par := by simp [State.enterVector]
@[simp] theorem State.enterVector_ssby (k : Byte) : (s.enterVector k).ssby = s.ssby := by simp [State.enterVector]
@[simp] theorem State.enterVector_host (k : Byte) : (s.enterVector k).host = s.host := by simp [State.enterVector]

@[simp] theorem State.exceptionEntry_irqInhibit (k : Byte) (ret : Addr) : (s.exceptionEntry k ret).irqInhibit = s.irqInhibit := by simp [State.exceptionEntry]
@[simp] theorem State.exceptionEntry_par (k : Byte) (ret : Addr) : (s.exceptionEntry k ret).par = s.par := by simp [State.exceptionEntry]
@[simp] theorem State.exceptionEntry_ssby (k : Byte) (ret : Addr) : (s.exceptionEntry k ret).ssby = s.ssby := by simp [State.exceptionEntry]
@[simp] theorem State.exceptionEntry_host (k : Byte) (ret : Addr) : (s.exceptionEntry k ret).host = s.host := by simp [State.exceptionEntry]

@[simp] theorem MemOperand.step_pc (m : MemOperand) (size : Nat) : (m.step size s).pc = s.pc := by
  cases m <;> rfl
@[simp] theorem MemOperand.step_ccr (m : MemOperand) (size : Nat) : (m.step size s).ccr = s.ccr := by
  cases m <;> rfl
@[simp] theorem MemOperand.step_mem (m : MemOperand) (size : Nat) : (m.step size s).mem = s.mem := by
  cases m <;> rfl
@[simp] theorem MemOperand.step_pstate (m : MemOperand) (size : Nat) : (m.step size s).pstate = s.pstate := by
  cases m <;> rfl
@[simp] theorem MemOperand.step_irqInhibit (m : MemOperand) (size : Nat) : (m.step size s).irqInhibit = s.irqInhibit := by
  cases m <;> rfl
@[simp] theorem MemOperand.step_prefetch (m : MemOperand) (size : Nat) : (m.step size s).prefetch = s.prefetch := by
  cases m <;> rfl
@[simp] theorem MemOperand.step_par (m : MemOperand) (size : Nat) : (m.step size s).par = s.par := by
  cases m <;> rfl
@[simp] theorem MemOperand.step_ssby (m : MemOperand) (size : Nat) : (m.step size s).ssby = s.ssby := by
  cases m <;> rfl
@[simp] theorem MemOperand.step_host (m : MemOperand) (size : Nat) : (m.step size s).host = s.host := by
  cases m <;> rfl
@[simp] theorem MemOperand.step_bus (m : MemOperand) (size : Nat) : (m.step size s).bus = s.bus := by
  cases m <;> rfl
@[simp] theorem MemOperand.step_draws (m : MemOperand) (size : Nat) : (m.step size s).draws = s.draws := by
  cases m <;> rfl

/-! ### The word read ahead -/

@[simp] theorem State.readAhead_regs (a : Addr) : (s.readAhead a).regs = s.regs := by simp [State.readAhead]
@[simp] theorem State.readAhead_pc (a : Addr) : (s.readAhead a).pc = s.pc := by simp [State.readAhead]
@[simp] theorem State.readAhead_ccr (a : Addr) : (s.readAhead a).ccr = s.ccr := by simp [State.readAhead]
@[simp] theorem State.readAhead_mem (a : Addr) : (s.readAhead a).mem = s.mem := by simp [State.readAhead]
@[simp] theorem State.readAhead_pstate (a : Addr) : (s.readAhead a).pstate = s.pstate := by simp [State.readAhead]
@[simp] theorem State.readAhead_irqInhibit (a : Addr) : (s.readAhead a).irqInhibit = s.irqInhibit := by simp [State.readAhead]
@[simp] theorem State.readAhead_par (a : Addr) : (s.readAhead a).par = s.par := by simp [State.readAhead]
@[simp] theorem State.readAhead_ssby (a : Addr) : (s.readAhead a).ssby = s.ssby := by simp [State.readAhead]
@[simp] theorem State.readAhead_host (a : Addr) : (s.readAhead a).host = s.host := by simp [State.readAhead]
@[simp] theorem State.readAhead_prefetch (a : Addr) : (s.readAhead a).prefetch = some (s.loadW a) := rfl
@[simp] theorem State.readAhead_bus (a : Addr) : (s.readAhead a).bus = (s.seeW a).bus := rfl
@[simp] theorem State.readAhead_draws (a : Addr) : (s.readAhead a).draws = (s.seeW a).draws := rfl

@[simp] theorem State.fetchDue_regs : (s.fetchDue).regs = s.regs := by unfold State.fetchDue; split <;> simp
@[simp] theorem State.fetchDue_pc : (s.fetchDue).pc = s.pc := by unfold State.fetchDue; split <;> simp
@[simp] theorem State.fetchDue_ccr : (s.fetchDue).ccr = s.ccr := by unfold State.fetchDue; split <;> simp
@[simp] theorem State.fetchDue_mem : (s.fetchDue).mem = s.mem := by unfold State.fetchDue; split <;> simp
@[simp] theorem State.fetchDue_pstate : (s.fetchDue).pstate = s.pstate := by unfold State.fetchDue; split <;> simp
@[simp] theorem State.fetchDue_irqInhibit : (s.fetchDue).irqInhibit = s.irqInhibit := by unfold State.fetchDue; split <;> simp
@[simp] theorem State.fetchDue_par : (s.fetchDue).par = s.par := by unfold State.fetchDue; split <;> simp
@[simp] theorem State.fetchDue_ssby : (s.fetchDue).ssby = s.ssby := by unfold State.fetchDue; split <;> simp
@[simp] theorem State.fetchDue_host : (s.fetchDue).host = s.host := by unfold State.fetchDue; split <;> simp

@[simp] theorem State.entryRead_regs : (s.entryRead).regs = s.regs := by unfold State.entryRead; split <;> simp
@[simp] theorem State.entryRead_pc : (s.entryRead).pc = s.pc := by unfold State.entryRead; split <;> simp
@[simp] theorem State.entryRead_ccr : (s.entryRead).ccr = s.ccr := by unfold State.entryRead; split <;> simp
@[simp] theorem State.entryRead_mem : (s.entryRead).mem = s.mem := by unfold State.entryRead; split <;> simp
@[simp] theorem State.entryRead_pstate : (s.entryRead).pstate = s.pstate := by unfold State.entryRead; split <;> simp
@[simp] theorem State.entryRead_irqInhibit : (s.entryRead).irqInhibit = s.irqInhibit := by unfold State.entryRead; split <;> simp
@[simp] theorem State.entryRead_prefetch : (s.entryRead).prefetch = s.prefetch := by unfold State.entryRead; split <;> simp
@[simp] theorem State.entryRead_par : (s.entryRead).par = s.par := by unfold State.entryRead; split <;> simp
@[simp] theorem State.entryRead_ssby : (s.entryRead).ssby = s.ssby := by unfold State.entryRead; split <;> simp
@[simp] theorem State.entryRead_host : (s.entryRead).host = s.host := by unfold State.entryRead; split <;> simp

@[simp] theorem State.readTarget_regs (a : Addr) : (s.readTarget a).regs = s.regs := by unfold State.readTarget; split <;> simp
@[simp] theorem State.readTarget_pc (a : Addr) : (s.readTarget a).pc = s.pc := by unfold State.readTarget; split <;> simp
@[simp] theorem State.readTarget_ccr (a : Addr) : (s.readTarget a).ccr = s.ccr := by unfold State.readTarget; split <;> simp
@[simp] theorem State.readTarget_mem (a : Addr) : (s.readTarget a).mem = s.mem := by unfold State.readTarget; split <;> simp
@[simp] theorem State.readTarget_pstate (a : Addr) : (s.readTarget a).pstate = s.pstate := by unfold State.readTarget; split <;> simp
@[simp] theorem State.readTarget_irqInhibit (a : Addr) : (s.readTarget a).irqInhibit = s.irqInhibit := by unfold State.readTarget; split <;> simp
@[simp] theorem State.readTarget_par (a : Addr) : (s.readTarget a).par = s.par := by unfold State.readTarget; split <;> simp
@[simp] theorem State.readTarget_ssby (a : Addr) : (s.readTarget a).ssby = s.ssby := by unfold State.readTarget; split <;> simp
@[simp] theorem State.readTarget_host (a : Addr) : (s.readTarget a).host = s.host := by unfold State.readTarget; split <;> simp

end Sys2Proof.Machine
end

