-- ==== Sys2Proof/Laws/Readers.lean ====
section
/-! SUPPORT. What each operation leaves readable: registers, flags and addresses read after an operation
that does not change them are as before it. -/

namespace Sys2Proof.Machine

variable (s : State)

theorem State.reg32_congr {s t : State} (h0 : t.regs = s.regs) (er : ER) : t.reg32 er = s.reg32 er := by
  simp only [State.reg32, h0]

theorem State.reg16_congr {s t : State} (h0 : t.regs = s.regs) (q : R16) : t.reg16 q = s.reg16 q := by
  cases q <;> simp only [State.reg16, State.reg32, h0]

theorem State.reg8_congr {s t : State} (h0 : t.regs = s.regs) (q : R8) : t.reg8 q = s.reg8 q := by
  cases q <;> simp only [State.reg8, State.reg32, h0]

theorem State.flag_congr {s t : State} (h0 : t.ccr = s.ccr) (g : Flag) : t.flag g = s.flag g := by
  simp only [State.flag, h0]

theorem State.red_congr {s t : State} (h0 : t.par = s.par) (at_ : Addr) : t.red at_ = s.red at_ := by
  simp only [State.red, h0]

theorem State.wordAddr_congr {s t : State} (h0 : t.par = s.par) (at_ : Addr) : t.wordAddr at_ = s.wordAddr at_ := by
  simp only [State.wordAddr, State.red, h0]

theorem State.pcForm_congr {s t : State} (h0 : t.par = s.par) (at_ : Addr) : t.pcForm at_ = s.pcForm at_ := by
  simp only [State.pcForm, State.red, h0]

theorem State.kindAt_congr {s t : State} (h0 : t.par = s.par) (at_ : Addr) : t.kindAt at_ = s.kindAt at_ := by
  simp only [State.kindAt, h0]

theorem State.next_congr {s t : State} (h0 : t.pc = s.pc) (h1 : t.par = s.par) (k : Nat) : t.next k = s.next k := by
  simp only [State.next, State.pcForm, State.red, h0, h1]

theorem State.pointerSize_congr {s t : State} (h0 : t.par = s.par) : t.pointerSize = s.pointerSize := by
  simp only [State.pointerSize, h0]

theorem State.vectorAddr_congr {s t : State} (h0 : t.par = s.par) (j : Byte) : t.vectorAddr j = s.vectorAddr j := by
  simp only [State.vectorAddr, h0]

@[simp] theorem State.flag_setReg32 (n : ER) (v : Long) (g : Flag) : (s.setReg32 n v).flag g = s.flag g :=
  State.flag_congr (by simp) g
@[simp] theorem State.red_setReg32 (n : ER) (v : Long) (at_ : Addr) : (s.setReg32 n v).red at_ = s.red at_ :=
  State.red_congr (by simp) at_
@[simp] theorem State.wordAddr_setReg32 (n : ER) (v : Long) (at_ : Addr) : (s.setReg32 n v).wordAddr at_ = s.wordAddr at_ :=
  State.wordAddr_congr (by simp) at_
@[simp] theorem State.pcForm_setReg32 (n : ER) (v : Long) (at_ : Addr) : (s.setReg32 n v).pcForm at_ = s.pcForm at_ :=
  State.pcForm_congr (by simp) at_
@[simp] theorem State.kindAt_setReg32 (n : ER) (v : Long) (at_ : Addr) : (s.setReg32 n v).kindAt at_ = s.kindAt at_ :=
  State.kindAt_congr (by simp) at_
@[simp] theorem State.next_setReg32 (n : ER) (v : Long) (k : Nat) : (s.setReg32 n v).next k = s.next k :=
  State.next_congr (by simp) (by simp) k
@[simp] theorem State.pointerSize_setReg32 (n : ER) (v : Long) : (s.setReg32 n v).pointerSize = s.pointerSize :=
  State.pointerSize_congr (by simp)
@[simp] theorem State.vectorAddr_setReg32 (n : ER) (v : Long) (j : Byte) : (s.setReg32 n v).vectorAddr j = s.vectorAddr j :=
  State.vectorAddr_congr (by simp) j

@[simp] theorem State.reg32_setFlag (f : Flag) (x : Bool) (er : ER) : (s.setFlag f x).reg32 er = s.reg32 er :=
  State.reg32_congr (by simp) er
@[simp] theorem State.reg16_setFlag (f : Flag) (x : Bool) (q : R16) : (s.setFlag f x).reg16 q = s.reg16 q :=
  State.reg16_congr (by simp) q
@[simp] theorem State.reg8_setFlag (f : Flag) (x : Bool) (q : R8) : (s.setFlag f x).reg8 q = s.reg8 q :=
  State.reg8_congr (by simp) q
@[simp] theorem State.red_setFlag (f : Flag) (x : Bool) (at_ : Addr) : (s.setFlag f x).red at_ = s.red at_ :=
  State.red_congr (by simp) at_
@[simp] theorem State.wordAddr_setFlag (f : Flag) (x : Bool) (at_ : Addr) : (s.setFlag f x).wordAddr at_ = s.wordAddr at_ :=
  State.wordAddr_congr (by simp) at_
@[simp] theorem State.pcForm_setFlag (f : Flag) (x : Bool) (at_ : Addr) : (s.setFlag f x).pcForm at_ = s.pcForm at_ :=
  State.pcForm_congr (by simp) at_
@[simp] theorem State.kindAt_setFlag (f : Flag) (x : Bool) (at_ : Addr) : (s.setFlag f x).kindAt at_ = s.kindAt at_ :=
  State.kindAt_congr (by simp) at_
@[simp] theorem State.next_setFlag (f : Flag) (x : Bool) (k : Nat) : (s.setFlag f x).next k = s.next k :=
  State.next_congr (by simp) (by simp) k
@[simp] theorem State.pointerSize_setFlag (f : Flag) (x : Bool) : (s.setFlag f x).pointerSize = s.pointerSize :=
  State.pointerSize_congr (by simp)
@[simp] theorem State.vectorAddr_setFlag (f : Flag) (x : Bool) (j : Byte) : (s.setFlag f x).vectorAddr j = s.vectorAddr j :=
  State.vectorAddr_congr (by simp) j

@[simp] theorem State.reg32_setCcr (v : Byte) (er : ER) : (s.setCcr v).reg32 er = s.reg32 er :=
  State.reg32_congr (by simp) er
@[simp] theorem State.reg16_setCcr (v : Byte) (q : R16) : (s.setCcr v).reg16 q = s.reg16 q :=
  State.reg16_congr (by simp) q
@[simp] theorem State.reg8_setCcr (v : Byte) (q : R8) : (s.setCcr v).reg8 q = s.reg8 q :=
  State.reg8_congr (by simp) q
@[simp] theorem State.red_setCcr (v : Byte) (at_ : Addr) : (s.setCcr v).red at_ = s.red at_ :=
  State.red_congr (by simp) at_
@[simp] theorem State.wordAddr_setCcr (v : Byte) (at_ : Addr) : (s.setCcr v).wordAddr at_ = s.wordAddr at_ :=
  State.wordAddr_congr (by simp) at_
@[simp] theorem State.pcForm_setCcr (v : Byte) (at_ : Addr) : (s.setCcr v).pcForm at_ = s.pcForm at_ :=
  State.pcForm_congr (by simp) at_
@[simp] theorem State.kindAt_setCcr (v : Byte) (at_ : Addr) : (s.setCcr v).kindAt at_ = s.kindAt at_ :=
  State.kindAt_congr (by simp) at_
@[simp] theorem State.next_setCcr (v : Byte) (k : Nat) : (s.setCcr v).next k = s.next k :=
  State.next_congr (by simp) (by simp) k
@[simp] theorem State.pointerSize_setCcr (v : Byte) : (s.setCcr v).pointerSize = s.pointerSize :=
  State.pointerSize_congr (by simp)
@[simp] theorem State.vectorAddr_setCcr (v : Byte) (j : Byte) : (s.setCcr v).vectorAddr j = s.vectorAddr j :=
  State.vectorAddr_congr (by simp) j

@[simp] theorem State.reg32_inhibit (er : ER) : (s.inhibit).reg32 er = s.reg32 er :=
  State.reg32_congr (by simp) er
@[simp] theorem State.reg16_inhibit (q : R16) : (s.inhibit).reg16 q = s.reg16 q :=
  State.reg16_congr (by simp) q
@[simp] theorem State.reg8_inhibit (q : R8) : (s.inhibit).reg8 q = s.reg8 q :=
  State.reg8_congr (by simp) q
@[simp] theorem State.flag_inhibit (g : Flag) : (s.inhibit).flag g = s.flag g :=
  State.flag_congr (by simp) g
@[simp] theorem State.red_inhibit (at_ : Addr) : (s.inhibit).red at_ = s.red at_ :=
  State.red_congr (by simp) at_
@[simp] theorem State.wordAddr_inhibit (at_ : Addr) : (s.inhibit).wordAddr at_ = s.wordAddr at_ :=
  State.wordAddr_congr (by simp) at_
@[simp] theorem State.pcForm_inhibit (at_ : Addr) : (s.inhibit).pcForm at_ = s.pcForm at_ :=
  State.pcForm_congr (by simp) at_
@[simp] theorem State.kindAt_inhibit (at_ : Addr) : (s.inhibit).kindAt at_ = s.kindAt at_ :=
  State.kindAt_congr (by simp) at_
@[simp] theorem State.next_inhibit (k : Nat) : (s.inhibit).next k = s.next k :=
  State.next_congr (by simp) (by simp) k
@[simp] theorem State.pointerSize_inhibit : (s.inhibit).pointerSize = s.pointerSize :=
  State.pointerSize_congr (by simp)
@[simp] theorem State.vectorAddr_inhibit (j : Byte) : (s.inhibit).vectorAddr j = s.vectorAddr j :=
  State.vectorAddr_congr (by simp) j

@[simp] theorem State.reg32_jump (t : Addr) (er : ER) : (s.jump t).reg32 er = s.reg32 er :=
  State.reg32_congr (by simp) er
@[simp] theorem State.reg16_jump (t : Addr) (q : R16) : (s.jump t).reg16 q = s.reg16 q :=
  State.reg16_congr (by simp) q
@[simp] theorem State.reg8_jump (t : Addr) (q : R8) : (s.jump t).reg8 q = s.reg8 q :=
  State.reg8_congr (by simp) q
@[simp] theorem State.flag_jump (t : Addr) (g : Flag) : (s.jump t).flag g = s.flag g :=
  State.flag_congr (by simp) g
@[simp] theorem State.red_jump (t : Addr) (at_ : Addr) : (s.jump t).red at_ = s.red at_ :=
  State.red_congr (by simp) at_
@[simp] theorem State.wordAddr_jump (t : Addr) (at_ : Addr) : (s.jump t).wordAddr at_ = s.wordAddr at_ :=
  State.wordAddr_congr (by simp) at_
@[simp] theorem State.pcForm_jump (t : Addr) (at_ : Addr) : (s.jump t).pcForm at_ = s.pcForm at_ :=
  State.pcForm_congr (by simp) at_
@[simp] theorem State.kindAt_jump (t : Addr) (at_ : Addr) : (s.jump t).kindAt at_ = s.kindAt at_ :=
  State.kindAt_congr (by simp) at_
@[simp] theorem State.pointerSize_jump (t : Addr) : (s.jump t).pointerSize = s.pointerSize :=
  State.pointerSize_congr (by simp)
@[simp] theorem State.vectorAddr_jump (t : Addr) (j : Byte) : (s.jump t).vectorAddr j = s.vectorAddr j :=
  State.vectorAddr_congr (by simp) j

@[simp] theorem State.reg32_advance (n : Nat) (er : ER) : (s.advance n).reg32 er = s.reg32 er :=
  State.reg32_congr (by simp) er
@[simp] theorem State.reg16_advance (n : Nat) (q : R16) : (s.advance n).reg16 q = s.reg16 q :=
  State.reg16_congr (by simp) q
@[simp] theorem State.reg8_advance (n : Nat) (q : R8) : (s.advance n).reg8 q = s.reg8 q :=
  State.reg8_congr (by simp) q
@[simp] theorem State.flag_advance (n : Nat) (g : Flag) : (s.advance n).flag g = s.flag g :=
  State.flag_congr (by simp) g
@[simp] theorem State.red_advance (n : Nat) (at_ : Addr) : (s.advance n).red at_ = s.red at_ :=
  State.red_congr (by simp) at_
@[simp] theorem State.wordAddr_advance (n : Nat) (at_ : Addr) : (s.advance n).wordAddr at_ = s.wordAddr at_ :=
  State.wordAddr_congr (by simp) at_
@[simp] theorem State.pcForm_advance (n : Nat) (at_ : Addr) : (s.advance n).pcForm at_ = s.pcForm at_ :=
  State.pcForm_congr (by simp) at_
@[simp] theorem State.kindAt_advance (n : Nat) (at_ : Addr) : (s.advance n).kindAt at_ = s.kindAt at_ :=
  State.kindAt_congr (by simp) at_
@[simp] theorem State.pointerSize_advance (n : Nat) : (s.advance n).pointerSize = s.pointerSize :=
  State.pointerSize_congr (by simp)
@[simp] theorem State.vectorAddr_advance (n : Nat) (j : Byte) : (s.advance n).vectorAddr j = s.vectorAddr j :=
  State.vectorAddr_congr (by simp) j

@[simp] theorem State.reg32_drawn (er : ER) : (s.drawn).reg32 er = s.reg32 er :=
  State.reg32_congr (by simp) er
@[simp] theorem State.reg16_drawn (q : R16) : (s.drawn).reg16 q = s.reg16 q :=
  State.reg16_congr (by simp) q
@[simp] theorem State.reg8_drawn (q : R8) : (s.drawn).reg8 q = s.reg8 q :=
  State.reg8_congr (by simp) q
@[simp] theorem State.flag_drawn (g : Flag) : (s.drawn).flag g = s.flag g :=
  State.flag_congr (by simp) g
@[simp] theorem State.red_drawn (at_ : Addr) : (s.drawn).red at_ = s.red at_ :=
  State.red_congr (by simp) at_
@[simp] theorem State.wordAddr_drawn (at_ : Addr) : (s.drawn).wordAddr at_ = s.wordAddr at_ :=
  State.wordAddr_congr (by simp) at_
@[simp] theorem State.pcForm_drawn (at_ : Addr) : (s.drawn).pcForm at_ = s.pcForm at_ :=
  State.pcForm_congr (by simp) at_
@[simp] theorem State.kindAt_drawn (at_ : Addr) : (s.drawn).kindAt at_ = s.kindAt at_ :=
  State.kindAt_congr (by simp) at_
@[simp] theorem State.next_drawn (k : Nat) : (s.drawn).next k = s.next k :=
  State.next_congr (by simp) (by simp) k
@[simp] theorem State.pointerSize_drawn : (s.drawn).pointerSize = s.pointerSize :=
  State.pointerSize_congr (by simp)
@[simp] theorem State.vectorAddr_drawn (j : Byte) : (s.drawn).vectorAddr j = s.vectorAddr j :=
  State.vectorAddr_congr (by simp) j

@[simp] theorem State.reg32_tick (er : ER) : (s.tick).reg32 er = s.reg32 er :=
  State.reg32_congr (by simp) er
@[simp] theorem State.reg16_tick (q : R16) : (s.tick).reg16 q = s.reg16 q :=
  State.reg16_congr (by simp) q
@[simp] theorem State.reg8_tick (q : R8) : (s.tick).reg8 q = s.reg8 q :=
  State.reg8_congr (by simp) q
@[simp] theorem State.flag_tick (g : Flag) : (s.tick).flag g = s.flag g :=
  State.flag_congr (by simp) g
@[simp] theorem State.red_tick (at_ : Addr) : (s.tick).red at_ = s.red at_ :=
  State.red_congr (by simp) at_
@[simp] theorem State.wordAddr_tick (at_ : Addr) : (s.tick).wordAddr at_ = s.wordAddr at_ :=
  State.wordAddr_congr (by simp) at_
@[simp] theorem State.pcForm_tick (at_ : Addr) : (s.tick).pcForm at_ = s.pcForm at_ :=
  State.pcForm_congr (by simp) at_
@[simp] theorem State.kindAt_tick (at_ : Addr) : (s.tick).kindAt at_ = s.kindAt at_ :=
  State.kindAt_congr (by simp) at_
@[simp] theorem State.next_tick (k : Nat) : (s.tick).next k = s.next k :=
  State.next_congr (by simp) (by simp) k
@[simp] theorem State.pointerSize_tick : (s.tick).pointerSize = s.pointerSize :=
  State.pointerSize_congr (by simp)
@[simp] theorem State.vectorAddr_tick (j : Byte) : (s.tick).vectorAddr j = s.vectorAddr j :=
  State.vectorAddr_congr (by simp) j

@[simp] theorem State.reg32_setNZ {w : Nat} (r : BitVec w) (er : ER) : (s.setNZ r).reg32 er = s.reg32 er :=
  State.reg32_congr (by simp) er
@[simp] theorem State.reg16_setNZ {w : Nat} (r : BitVec w) (q : R16) : (s.setNZ r).reg16 q = s.reg16 q :=
  State.reg16_congr (by simp) q
@[simp] theorem State.reg8_setNZ {w : Nat} (r : BitVec w) (q : R8) : (s.setNZ r).reg8 q = s.reg8 q :=
  State.reg8_congr (by simp) q
@[simp] theorem State.red_setNZ {w : Nat} (r : BitVec w) (at_ : Addr) : (s.setNZ r).red at_ = s.red at_ :=
  State.red_congr (by simp) at_
@[simp] theorem State.wordAddr_setNZ {w : Nat} (r : BitVec w) (at_ : Addr) : (s.setNZ r).wordAddr at_ = s.wordAddr at_ :=
  State.wordAddr_congr (by simp) at_
@[simp] theorem State.pcForm_setNZ {w : Nat} (r : BitVec w) (at_ : Addr) : (s.setNZ r).pcForm at_ = s.pcForm at_ :=
  State.pcForm_congr (by simp) at_
@[simp] theorem State.kindAt_setNZ {w : Nat} (r : BitVec w) (at_ : Addr) : (s.setNZ r).kindAt at_ = s.kindAt at_ :=
  State.kindAt_congr (by simp) at_
@[simp] theorem State.next_setNZ {w : Nat} (r : BitVec w) (k : Nat) : (s.setNZ r).next k = s.next k :=
  State.next_congr (by simp) (by simp) k
@[simp] theorem State.pointerSize_setNZ {w : Nat} (r : BitVec w) : (s.setNZ r).pointerSize = s.pointerSize :=
  State.pointerSize_congr (by simp)
@[simp] theorem State.vectorAddr_setNZ {w : Nat} (r : BitVec w) (j : Byte) : (s.setNZ r).vectorAddr j = s.vectorAddr j :=
  State.vectorAddr_congr (by simp) j

@[simp] theorem State.reg32_setNZV0 {w : Nat} (r : BitVec w) (er : ER) : (s.setNZV0 r).reg32 er = s.reg32 er :=
  State.reg32_congr (by simp) er
@[simp] theorem State.reg16_setNZV0 {w : Nat} (r : BitVec w) (q : R16) : (s.setNZV0 r).reg16 q = s.reg16 q :=
  State.reg16_congr (by simp) q
@[simp] theorem State.reg8_setNZV0 {w : Nat} (r : BitVec w) (q : R8) : (s.setNZV0 r).reg8 q = s.reg8 q :=
  State.reg8_congr (by simp) q
@[simp] theorem State.red_setNZV0 {w : Nat} (r : BitVec w) (at_ : Addr) : (s.setNZV0 r).red at_ = s.red at_ :=
  State.red_congr (by simp) at_
@[simp] theorem State.wordAddr_setNZV0 {w : Nat} (r : BitVec w) (at_ : Addr) : (s.setNZV0 r).wordAddr at_ = s.wordAddr at_ :=
  State.wordAddr_congr (by simp) at_
@[simp] theorem State.pcForm_setNZV0 {w : Nat} (r : BitVec w) (at_ : Addr) : (s.setNZV0 r).pcForm at_ = s.pcForm at_ :=
  State.pcForm_congr (by simp) at_
@[simp] theorem State.kindAt_setNZV0 {w : Nat} (r : BitVec w) (at_ : Addr) : (s.setNZV0 r).kindAt at_ = s.kindAt at_ :=
  State.kindAt_congr (by simp) at_
@[simp] theorem State.next_setNZV0 {w : Nat} (r : BitVec w) (k : Nat) : (s.setNZV0 r).next k = s.next k :=
  State.next_congr (by simp) (by simp) k
@[simp] theorem State.pointerSize_setNZV0 {w : Nat} (r : BitVec w) : (s.setNZV0 r).pointerSize = s.pointerSize :=
  State.pointerSize_congr (by simp)
@[simp] theorem State.vectorAddr_setNZV0 {w : Nat} (r : BitVec w) (j : Byte) : (s.setNZV0 r).vectorAddr j = s.vectorAddr j :=
  State.vectorAddr_congr (by simp) j

@[simp] theorem State.reg32_setAddFlags {w : Nat} (a b : BitVec w) (c : Bool) (er : ER) : (s.setAddFlags a b c).reg32 er = s.reg32 er :=
  State.reg32_congr (by simp) er
@[simp] theorem State.reg16_setAddFlags {w : Nat} (a b : BitVec w) (c : Bool) (q : R16) : (s.setAddFlags a b c).reg16 q = s.reg16 q :=
  State.reg16_congr (by simp) q
@[simp] theorem State.reg8_setAddFlags {w : Nat} (a b : BitVec w) (c : Bool) (q : R8) : (s.setAddFlags a b c).reg8 q = s.reg8 q :=
  State.reg8_congr (by simp) q
@[simp] theorem State.red_setAddFlags {w : Nat} (a b : BitVec w) (c : Bool) (at_ : Addr) : (s.setAddFlags a b c).red at_ = s.red at_ :=
  State.red_congr (by simp) at_
@[simp] theorem State.wordAddr_setAddFlags {w : Nat} (a b : BitVec w) (c : Bool) (at_ : Addr) : (s.setAddFlags a b c).wordAddr at_ = s.wordAddr at_ :=
  State.wordAddr_congr (by simp) at_
@[simp] theorem State.pcForm_setAddFlags {w : Nat} (a b : BitVec w) (c : Bool) (at_ : Addr) : (s.setAddFlags a b c).pcForm at_ = s.pcForm at_ :=
  State.pcForm_congr (by simp) at_
@[simp] theorem State.kindAt_setAddFlags {w : Nat} (a b : BitVec w) (c : Bool) (at_ : Addr) : (s.setAddFlags a b c).kindAt at_ = s.kindAt at_ :=
  State.kindAt_congr (by simp) at_
@[simp] theorem State.next_setAddFlags {w : Nat} (a b : BitVec w) (c : Bool) (k : Nat) : (s.setAddFlags a b c).next k = s.next k :=
  State.next_congr (by simp) (by simp) k
@[simp] theorem State.pointerSize_setAddFlags {w : Nat} (a b : BitVec w) (c : Bool) : (s.setAddFlags a b c).pointerSize = s.pointerSize :=
  State.pointerSize_congr (by simp)
@[simp] theorem State.vectorAddr_setAddFlags {w : Nat} (a b : BitVec w) (c : Bool) (j : Byte) : (s.setAddFlags a b c).vectorAddr j = s.vectorAddr j :=
  State.vectorAddr_congr (by simp) j

@[simp] theorem State.reg32_setSubFlags {w : Nat} (a b : BitVec w) (c : Bool) (er : ER) : (s.setSubFlags a b c).reg32 er = s.reg32 er :=
  State.reg32_congr (by simp) er
@[simp] theorem State.reg16_setSubFlags {w : Nat} (a b : BitVec w) (c : Bool) (q : R16) : (s.setSubFlags a b c).reg16 q = s.reg16 q :=
  State.reg16_congr (by simp) q
@[simp] theorem State.reg8_setSubFlags {w : Nat} (a b : BitVec w) (c : Bool) (q : R8) : (s.setSubFlags a b c).reg8 q = s.reg8 q :=
  State.reg8_congr (by simp) q
@[simp] theorem State.red_setSubFlags {w : Nat} (a b : BitVec w) (c : Bool) (at_ : Addr) : (s.setSubFlags a b c).red at_ = s.red at_ :=
  State.red_congr (by simp) at_
@[simp] theorem State.wordAddr_setSubFlags {w : Nat} (a b : BitVec w) (c : Bool) (at_ : Addr) : (s.setSubFlags a b c).wordAddr at_ = s.wordAddr at_ :=
  State.wordAddr_congr (by simp) at_
@[simp] theorem State.pcForm_setSubFlags {w : Nat} (a b : BitVec w) (c : Bool) (at_ : Addr) : (s.setSubFlags a b c).pcForm at_ = s.pcForm at_ :=
  State.pcForm_congr (by simp) at_
@[simp] theorem State.kindAt_setSubFlags {w : Nat} (a b : BitVec w) (c : Bool) (at_ : Addr) : (s.setSubFlags a b c).kindAt at_ = s.kindAt at_ :=
  State.kindAt_congr (by simp) at_
@[simp] theorem State.next_setSubFlags {w : Nat} (a b : BitVec w) (c : Bool) (k : Nat) : (s.setSubFlags a b c).next k = s.next k :=
  State.next_congr (by simp) (by simp) k
@[simp] theorem State.pointerSize_setSubFlags {w : Nat} (a b : BitVec w) (c : Bool) : (s.setSubFlags a b c).pointerSize = s.pointerSize :=
  State.pointerSize_congr (by simp)
@[simp] theorem State.vectorAddr_setSubFlags {w : Nat} (a b : BitVec w) (c : Bool) (j : Byte) : (s.setSubFlags a b c).vectorAddr j = s.vectorAddr j :=
  State.vectorAddr_congr (by simp) j

@[simp] theorem State.reg32_stickyZ {w : Nat} (z : Bool) (r : BitVec w) (er : ER) : (s.stickyZ z r).reg32 er = s.reg32 er :=
  State.reg32_congr (by simp) er
@[simp] theorem State.reg16_stickyZ {w : Nat} (z : Bool) (r : BitVec w) (q : R16) : (s.stickyZ z r).reg16 q = s.reg16 q :=
  State.reg16_congr (by simp) q
@[simp] theorem State.reg8_stickyZ {w : Nat} (z : Bool) (r : BitVec w) (q : R8) : (s.stickyZ z r).reg8 q = s.reg8 q :=
  State.reg8_congr (by simp) q
@[simp] theorem State.red_stickyZ {w : Nat} (z : Bool) (r : BitVec w) (at_ : Addr) : (s.stickyZ z r).red at_ = s.red at_ :=
  State.red_congr (by simp) at_
@[simp] theorem State.wordAddr_stickyZ {w : Nat} (z : Bool) (r : BitVec w) (at_ : Addr) : (s.stickyZ z r).wordAddr at_ = s.wordAddr at_ :=
  State.wordAddr_congr (by simp) at_
@[simp] theorem State.pcForm_stickyZ {w : Nat} (z : Bool) (r : BitVec w) (at_ : Addr) : (s.stickyZ z r).pcForm at_ = s.pcForm at_ :=
  State.pcForm_congr (by simp) at_
@[simp] theorem State.kindAt_stickyZ {w : Nat} (z : Bool) (r : BitVec w) (at_ : Addr) : (s.stickyZ z r).kindAt at_ = s.kindAt at_ :=
  State.kindAt_congr (by simp) at_
@[simp] theorem State.next_stickyZ {w : Nat} (z : Bool) (r : BitVec w) (k : Nat) : (s.stickyZ z r).next k = s.next k :=
  State.next_congr (by simp) (by simp) k
@[simp] theorem State.pointerSize_stickyZ {w : Nat} (z : Bool) (r : BitVec w) : (s.stickyZ z r).pointerSize = s.pointerSize :=
  State.pointerSize_congr (by simp)
@[simp] theorem State.vectorAddr_stickyZ {w : Nat} (z : Bool) (r : BitVec w) (j : Byte) : (s.stickyZ z r).vectorAddr j = s.vectorAddr j :=
  State.vectorAddr_congr (by simp) j

@[simp] theorem State.reg32_setDivFlags (n z : Bool) (er : ER) : (s.setDivFlags n z).reg32 er = s.reg32 er :=
  State.reg32_congr (by simp) er
@[simp] theorem State.reg16_setDivFlags (n z : Bool) (q : R16) : (s.setDivFlags n z).reg16 q = s.reg16 q :=
  State.reg16_congr (by simp) q
@[simp] theorem State.reg8_setDivFlags (n z : Bool) (q : R8) : (s.setDivFlags n z).reg8 q = s.reg8 q :=
  State.reg8_congr (by simp) q
@[simp] theorem State.red_setDivFlags (n z : Bool) (at_ : Addr) : (s.setDivFlags n z).red at_ = s.red at_ :=
  State.red_congr (by simp) at_
@[simp] theorem State.wordAddr_setDivFlags (n z : Bool) (at_ : Addr) : (s.setDivFlags n z).wordAddr at_ = s.wordAddr at_ :=
  State.wordAddr_congr (by simp) at_
@[simp] theorem State.pcForm_setDivFlags (n z : Bool) (at_ : Addr) : (s.setDivFlags n z).pcForm at_ = s.pcForm at_ :=
  State.pcForm_congr (by simp) at_
@[simp] theorem State.kindAt_setDivFlags (n z : Bool) (at_ : Addr) : (s.setDivFlags n z).kindAt at_ = s.kindAt at_ :=
  State.kindAt_congr (by simp) at_
@[simp] theorem State.next_setDivFlags (n z : Bool) (k : Nat) : (s.setDivFlags n z).next k = s.next k :=
  State.next_congr (by simp) (by simp) k
@[simp] theorem State.pointerSize_setDivFlags (n z : Bool) : (s.setDivFlags n z).pointerSize = s.pointerSize :=
  State.pointerSize_congr (by simp)
@[simp] theorem State.vectorAddr_setDivFlags (n z : Bool) (j : Byte) : (s.setDivFlags n z).vectorAddr j = s.vectorAddr j :=
  State.vectorAddr_congr (by simp) j

@[simp] theorem State.reg32_setShiftFlags {w : Nat} (x : Shifted w) (er : ER) : (s.setShiftFlags x).reg32 er = s.reg32 er :=
  State.reg32_congr (by simp) er
@[simp] theorem State.reg16_setShiftFlags {w : Nat} (x : Shifted w) (q : R16) : (s.setShiftFlags x).reg16 q = s.reg16 q :=
  State.reg16_congr (by simp) q
@[simp] theorem State.reg8_setShiftFlags {w : Nat} (x : Shifted w) (q : R8) : (s.setShiftFlags x).reg8 q = s.reg8 q :=
  State.reg8_congr (by simp) q
@[simp] theorem State.red_setShiftFlags {w : Nat} (x : Shifted w) (at_ : Addr) : (s.setShiftFlags x).red at_ = s.red at_ :=
  State.red_congr (by simp) at_
@[simp] theorem State.wordAddr_setShiftFlags {w : Nat} (x : Shifted w) (at_ : Addr) : (s.setShiftFlags x).wordAddr at_ = s.wordAddr at_ :=
  State.wordAddr_congr (by simp) at_
@[simp] theorem State.pcForm_setShiftFlags {w : Nat} (x : Shifted w) (at_ : Addr) : (s.setShiftFlags x).pcForm at_ = s.pcForm at_ :=
  State.pcForm_congr (by simp) at_
@[simp] theorem State.kindAt_setShiftFlags {w : Nat} (x : Shifted w) (at_ : Addr) : (s.setShiftFlags x).kindAt at_ = s.kindAt at_ :=
  State.kindAt_congr (by simp) at_
@[simp] theorem State.next_setShiftFlags {w : Nat} (x : Shifted w) (k : Nat) : (s.setShiftFlags x).next k = s.next k :=
  State.next_congr (by simp) (by simp) k
@[simp] theorem State.pointerSize_setShiftFlags {w : Nat} (x : Shifted w) : (s.setShiftFlags x).pointerSize = s.pointerSize :=
  State.pointerSize_congr (by simp)
@[simp] theorem State.vectorAddr_setShiftFlags {w : Nat} (x : Shifted w) (j : Byte) : (s.setShiftFlags x).vectorAddr j = s.vectorAddr j :=
  State.vectorAddr_congr (by simp) j

@[simp] theorem State.flag_setReg16 (r : R16) (v : Word) (g : Flag) : (s.setReg16 r v).flag g = s.flag g :=
  State.flag_congr (by simp) g
@[simp] theorem State.red_setReg16 (r : R16) (v : Word) (at_ : Addr) : (s.setReg16 r v).red at_ = s.red at_ :=
  State.red_congr (by simp) at_
@[simp] theorem State.wordAddr_setReg16 (r : R16) (v : Word) (at_ : Addr) : (s.setReg16 r v).wordAddr at_ = s.wordAddr at_ :=
  State.wordAddr_congr (by simp) at_
@[simp] theorem State.pcForm_setReg16 (r : R16) (v : Word) (at_ : Addr) : (s.setReg16 r v).pcForm at_ = s.pcForm at_ :=
  State.pcForm_congr (by simp) at_
@[simp] theorem State.kindAt_setReg16 (r : R16) (v : Word) (at_ : Addr) : (s.setReg16 r v).kindAt at_ = s.kindAt at_ :=
  State.kindAt_congr (by simp) at_
@[simp] theorem State.next_setReg16 (r : R16) (v : Word) (k : Nat) : (s.setReg16 r v).next k = s.next k :=
  State.next_congr (by simp) (by simp) k
@[simp] theorem State.pointerSize_setReg16 (r : R16) (v : Word) : (s.setReg16 r v).pointerSize = s.pointerSize :=
  State.pointerSize_congr (by simp)
@[simp] theorem State.vectorAddr_setReg16 (r : R16) (v : Word) (j : Byte) : (s.setReg16 r v).vectorAddr j = s.vectorAddr j :=
  State.vectorAddr_congr (by simp) j

@[simp] theorem State.flag_setReg8 (r : R8) (v : Byte) (g : Flag) : (s.setReg8 r v).flag g = s.flag g :=
  State.flag_congr (by simp) g
@[simp] theorem State.red_setReg8 (r : R8) (v : Byte) (at_ : Addr) : (s.setReg8 r v).red at_ = s.red at_ :=
  State.red_congr (by simp) at_
@[simp] theorem State.wordAddr_setReg8 (r : R8) (v : Byte) (at_ : Addr) : (s.setReg8 r v).wordAddr at_ = s.wordAddr at_ :=
  State.wordAddr_congr (by simp) at_
@[simp] theorem State.pcForm_setReg8 (r : R8) (v : Byte) (at_ : Addr) : (s.setReg8 r v).pcForm at_ = s.pcForm at_ :=
  State.pcForm_congr (by simp) at_
@[simp] theorem State.kindAt_setReg8 (r : R8) (v : Byte) (at_ : Addr) : (s.setReg8 r v).kindAt at_ = s.kindAt at_ :=
  State.kindAt_congr (by simp) at_
@[simp] theorem State.next_setReg8 (r : R8) (v : Byte) (k : Nat) : (s.setReg8 r v).next k = s.next k :=
  State.next_congr (by simp) (by simp) k
@[simp] theorem State.pointerSize_setReg8 (r : R8) (v : Byte) : (s.setReg8 r v).pointerSize = s.pointerSize :=
  State.pointerSize_congr (by simp)
@[simp] theorem State.vectorAddr_setReg8 (r : R8) (v : Byte) (j : Byte) : (s.setReg8 r v).vectorAddr j = s.vectorAddr j :=
  State.vectorAddr_congr (by simp) j

@[simp] theorem State.reg32_maskInterrupts (er : ER) : (s.maskInterrupts).reg32 er = s.reg32 er :=
  State.reg32_congr (by simp) er
@[simp] theorem State.reg16_maskInterrupts (q : R16) : (s.maskInterrupts).reg16 q = s.reg16 q :=
  State.reg16_congr (by simp) q
@[simp] theorem State.reg8_maskInterrupts (q : R8) : (s.maskInterrupts).reg8 q = s.reg8 q :=
  State.reg8_congr (by simp) q
@[simp] theorem State.red_maskInterrupts (at_ : Addr) : (s.maskInterrupts).red at_ = s.red at_ :=
  State.red_congr (by simp) at_
@[simp] theorem State.wordAddr_maskInterrupts (at_ : Addr) : (s.maskInterrupts).wordAddr at_ = s.wordAddr at_ :=
  State.wordAddr_congr (by simp) at_
@[simp] theorem State.pcForm_maskInterrupts (at_ : Addr) : (s.maskInterrupts).pcForm at_ = s.pcForm at_ :=
  State.pcForm_congr (by simp) at_
@[simp] theorem State.kindAt_maskInterrupts (at_ : Addr) : (s.maskInterrupts).kindAt at_ = s.kindAt at_ :=
  State.kindAt_congr (by simp) at_
@[simp] theorem State.next_maskInterrupts (k : Nat) : (s.maskInterrupts).next k = s.next k :=
  State.next_congr (by simp) (by simp) k
@[simp] theorem State.pointerSize_maskInterrupts : (s.maskInterrupts).pointerSize = s.pointerSize :=
  State.pointerSize_congr (by simp)
@[simp] theorem State.vectorAddr_maskInterrupts (j : Byte) : (s.maskInterrupts).vectorAddr j = s.vectorAddr j :=
  State.vectorAddr_congr (by simp) j

@[simp] theorem State.reg32_written (p : Addr) (c : BusCycle) (m : Memory) (er : ER) : (s.written p c m).reg32 er = s.reg32 er :=
  State.reg32_congr (by simp) er
@[simp] theorem State.reg16_written (p : Addr) (c : BusCycle) (m : Memory) (q : R16) : (s.written p c m).reg16 q = s.reg16 q :=
  State.reg16_congr (by simp) q
@[simp] theorem State.reg8_written (p : Addr) (c : BusCycle) (m : Memory) (q : R8) : (s.written p c m).reg8 q = s.reg8 q :=
  State.reg8_congr (by simp) q
@[simp] theorem State.flag_written (p : Addr) (c : BusCycle) (m : Memory) (g : Flag) : (s.written p c m).flag g = s.flag g :=
  State.flag_congr (by simp) g
@[simp] theorem State.red_written (p : Addr) (c : BusCycle) (m : Memory) (at_ : Addr) : (s.written p c m).red at_ = s.red at_ :=
  State.red_congr (by simp) at_
@[simp] theorem State.wordAddr_written (p : Addr) (c : BusCycle) (m : Memory) (at_ : Addr) : (s.written p c m).wordAddr at_ = s.wordAddr at_ :=
  State.wordAddr_congr (by simp) at_
@[simp] theorem State.pcForm_written (p : Addr) (c : BusCycle) (m : Memory) (at_ : Addr) : (s.written p c m).pcForm at_ = s.pcForm at_ :=
  State.pcForm_congr (by simp) at_
@[simp] theorem State.kindAt_written (p : Addr) (c : BusCycle) (m : Memory) (at_ : Addr) : (s.written p c m).kindAt at_ = s.kindAt at_ :=
  State.kindAt_congr (by simp) at_
@[simp] theorem State.next_written (p : Addr) (c : BusCycle) (m : Memory) (k : Nat) : (s.written p c m).next k = s.next k :=
  State.next_congr (by simp) (by simp) k
@[simp] theorem State.pointerSize_written (p : Addr) (c : BusCycle) (m : Memory) : (s.written p c m).pointerSize = s.pointerSize :=
  State.pointerSize_congr (by simp)
@[simp] theorem State.vectorAddr_written (p : Addr) (c : BusCycle) (m : Memory) (j : Byte) : (s.written p c m).vectorAddr j = s.vectorAddr j :=
  State.vectorAddr_congr (by simp) j

@[simp] theorem State.reg32_storeB (a : Addr) (v : Byte) (er : ER) : (s.storeB a v).reg32 er = s.reg32 er :=
  State.reg32_congr (by simp) er
@[simp] theorem State.reg16_storeB (a : Addr) (v : Byte) (q : R16) : (s.storeB a v).reg16 q = s.reg16 q :=
  State.reg16_congr (by simp) q
@[simp] theorem State.reg8_storeB (a : Addr) (v : Byte) (q : R8) : (s.storeB a v).reg8 q = s.reg8 q :=
  State.reg8_congr (by simp) q
@[simp] theorem State.flag_storeB (a : Addr) (v : Byte) (g : Flag) : (s.storeB a v).flag g = s.flag g :=
  State.flag_congr (by simp) g
@[simp] theorem State.red_storeB (a : Addr) (v : Byte) (at_ : Addr) : (s.storeB a v).red at_ = s.red at_ :=
  State.red_congr (by simp) at_
@[simp] theorem State.wordAddr_storeB (a : Addr) (v : Byte) (at_ : Addr) : (s.storeB a v).wordAddr at_ = s.wordAddr at_ :=
  State.wordAddr_congr (by simp) at_
@[simp] theorem State.pcForm_storeB (a : Addr) (v : Byte) (at_ : Addr) : (s.storeB a v).pcForm at_ = s.pcForm at_ :=
  State.pcForm_congr (by simp) at_
@[simp] theorem State.kindAt_storeB (a : Addr) (v : Byte) (at_ : Addr) : (s.storeB a v).kindAt at_ = s.kindAt at_ :=
  State.kindAt_congr (by simp) at_
@[simp] theorem State.next_storeB (a : Addr) (v : Byte) (k : Nat) : (s.storeB a v).next k = s.next k :=
  State.next_congr (by simp) (by simp) k
@[simp] theorem State.pointerSize_storeB (a : Addr) (v : Byte) : (s.storeB a v).pointerSize = s.pointerSize :=
  State.pointerSize_congr (by simp)
@[simp] theorem State.vectorAddr_storeB (a : Addr) (v : Byte) (j : Byte) : (s.storeB a v).vectorAddr j = s.vectorAddr j :=
  State.vectorAddr_congr (by simp) j

@[simp] theorem State.reg32_storeBytes (a : Addr) (h l : StoredByte) (er : ER) : (s.storeBytes a h l).reg32 er = s.reg32 er :=
  State.reg32_congr (by simp) er
@[simp] theorem State.reg16_storeBytes (a : Addr) (h l : StoredByte) (q : R16) : (s.storeBytes a h l).reg16 q = s.reg16 q :=
  State.reg16_congr (by simp) q
@[simp] theorem State.reg8_storeBytes (a : Addr) (h l : StoredByte) (q : R8) : (s.storeBytes a h l).reg8 q = s.reg8 q :=
  State.reg8_congr (by simp) q
@[simp] theorem State.flag_storeBytes (a : Addr) (h l : StoredByte) (g : Flag) : (s.storeBytes a h l).flag g = s.flag g :=
  State.flag_congr (by simp) g
@[simp] theorem State.red_storeBytes (a : Addr) (h l : StoredByte) (at_ : Addr) : (s.storeBytes a h l).red at_ = s.red at_ :=
  State.red_congr (by simp) at_
@[simp] theorem State.wordAddr_storeBytes (a : Addr) (h l : StoredByte) (at_ : Addr) : (s.storeBytes a h l).wordAddr at_ = s.wordAddr at_ :=
  State.wordAddr_congr (by simp) at_
@[simp] theorem State.pcForm_storeBytes (a : Addr) (h l : StoredByte) (at_ : Addr) : (s.storeBytes a h l).pcForm at_ = s.pcForm at_ :=
  State.pcForm_congr (by simp) at_
@[simp] theorem State.kindAt_storeBytes (a : Addr) (h l : StoredByte) (at_ : Addr) : (s.storeBytes a h l).kindAt at_ = s.kindAt at_ :=
  State.kindAt_congr (by simp) at_
@[simp] theorem State.next_storeBytes (a : Addr) (h l : StoredByte) (k : Nat) : (s.storeBytes a h l).next k = s.next k :=
  State.next_congr (by simp) (by simp) k
@[simp] theorem State.pointerSize_storeBytes (a : Addr) (h l : StoredByte) : (s.storeBytes a h l).pointerSize = s.pointerSize :=
  State.pointerSize_congr (by simp)
@[simp] theorem State.vectorAddr_storeBytes (a : Addr) (h l : StoredByte) (j : Byte) : (s.storeBytes a h l).vectorAddr j = s.vectorAddr j :=
  State.vectorAddr_congr (by simp) j

@[simp] theorem State.reg32_storeW (a : Addr) (v : Word) (er : ER) : (s.storeW a v).reg32 er = s.reg32 er :=
  State.reg32_congr (by simp) er
@[simp] theorem State.reg16_storeW (a : Addr) (v : Word) (q : R16) : (s.storeW a v).reg16 q = s.reg16 q :=
  State.reg16_congr (by simp) q
@[simp] theorem State.reg8_storeW (a : Addr) (v : Word) (q : R8) : (s.storeW a v).reg8 q = s.reg8 q :=
  State.reg8_congr (by simp) q
@[simp] theorem State.flag_storeW (a : Addr) (v : Word) (g : Flag) : (s.storeW a v).flag g = s.flag g :=
  State.flag_congr (by simp) g
@[simp] theorem State.red_storeW (a : Addr) (v : Word) (at_ : Addr) : (s.storeW a v).red at_ = s.red at_ :=
  State.red_congr (by simp) at_
@[simp] theorem State.wordAddr_storeW (a : Addr) (v : Word) (at_ : Addr) : (s.storeW a v).wordAddr at_ = s.wordAddr at_ :=
  State.wordAddr_congr (by simp) at_
@[simp] theorem State.pcForm_storeW (a : Addr) (v : Word) (at_ : Addr) : (s.storeW a v).pcForm at_ = s.pcForm at_ :=
  State.pcForm_congr (by simp) at_
@[simp] theorem State.kindAt_storeW (a : Addr) (v : Word) (at_ : Addr) : (s.storeW a v).kindAt at_ = s.kindAt at_ :=
  State.kindAt_congr (by simp) at_
@[simp] theorem State.next_storeW (a : Addr) (v : Word) (k : Nat) : (s.storeW a v).next k = s.next k :=
  State.next_congr (by simp) (by simp) k
@[simp] theorem State.pointerSize_storeW (a : Addr) (v : Word) : (s.storeW a v).pointerSize = s.pointerSize :=
  State.pointerSize_congr (by simp)
@[simp] theorem State.vectorAddr_storeW (a : Addr) (v : Word) (j : Byte) : (s.storeW a v).vectorAddr j = s.vectorAddr j :=
  State.vectorAddr_congr (by simp) j

@[simp] theorem State.reg32_storeL (a : Addr) (v : Long) (er : ER) : (s.storeL a v).reg32 er = s.reg32 er :=
  State.reg32_congr (by simp) er
@[simp] theorem State.reg16_storeL (a : Addr) (v : Long) (q : R16) : (s.storeL a v).reg16 q = s.reg16 q :=
  State.reg16_congr (by simp) q
@[simp] theorem State.reg8_storeL (a : Addr) (v : Long) (q : R8) : (s.storeL a v).reg8 q = s.reg8 q :=
  State.reg8_congr (by simp) q
@[simp] theorem State.flag_storeL (a : Addr) (v : Long) (g : Flag) : (s.storeL a v).flag g = s.flag g :=
  State.flag_congr (by simp) g
@[simp] theorem State.red_storeL (a : Addr) (v : Long) (at_ : Addr) : (s.storeL a v).red at_ = s.red at_ :=
  State.red_congr (by simp) at_
@[simp] theorem State.wordAddr_storeL (a : Addr) (v : Long) (at_ : Addr) : (s.storeL a v).wordAddr at_ = s.wordAddr at_ :=
  State.wordAddr_congr (by simp) at_
@[simp] theorem State.pcForm_storeL (a : Addr) (v : Long) (at_ : Addr) : (s.storeL a v).pcForm at_ = s.pcForm at_ :=
  State.pcForm_congr (by simp) at_
@[simp] theorem State.kindAt_storeL (a : Addr) (v : Long) (at_ : Addr) : (s.storeL a v).kindAt at_ = s.kindAt at_ :=
  State.kindAt_congr (by simp) at_
@[simp] theorem State.next_storeL (a : Addr) (v : Long) (k : Nat) : (s.storeL a v).next k = s.next k :=
  State.next_congr (by simp) (by simp) k
@[simp] theorem State.pointerSize_storeL (a : Addr) (v : Long) : (s.storeL a v).pointerSize = s.pointerSize :=
  State.pointerSize_congr (by simp)
@[simp] theorem State.vectorAddr_storeL (a : Addr) (v : Long) (j : Byte) : (s.storeL a v).vectorAddr j = s.vectorAddr j :=
  State.vectorAddr_congr (by simp) j

@[simp] theorem State.reg32_seen (p : Addr) (c : BusCycle) (er : ER) : (s.seen p c).reg32 er = s.reg32 er :=
  State.reg32_congr (by simp) er
@[simp] theorem State.reg16_seen (p : Addr) (c : BusCycle) (q : R16) : (s.seen p c).reg16 q = s.reg16 q :=
  State.reg16_congr (by simp) q
@[simp] theorem State.reg8_seen (p : Addr) (c : BusCycle) (q : R8) : (s.seen p c).reg8 q = s.reg8 q :=
  State.reg8_congr (by simp) q
@[simp] theorem State.flag_seen (p : Addr) (c : BusCycle) (g : Flag) : (s.seen p c).flag g = s.flag g :=
  State.flag_congr (by simp) g
@[simp] theorem State.red_seen (p : Addr) (c : BusCycle) (at_ : Addr) : (s.seen p c).red at_ = s.red at_ :=
  State.red_congr (by simp) at_
@[simp] theorem State.wordAddr_seen (p : Addr) (c : BusCycle) (at_ : Addr) : (s.seen p c).wordAddr at_ = s.wordAddr at_ :=
  State.wordAddr_congr (by simp) at_
@[simp] theorem State.pcForm_seen (p : Addr) (c : BusCycle) (at_ : Addr) : (s.seen p c).pcForm at_ = s.pcForm at_ :=
  State.pcForm_congr (by simp) at_
@[simp] theorem State.kindAt_seen (p : Addr) (c : BusCycle) (at_ : Addr) : (s.seen p c).kindAt at_ = s.kindAt at_ :=
  State.kindAt_congr (by simp) at_
@[simp] theorem State.next_seen (p : Addr) (c : BusCycle) (k : Nat) : (s.seen p c).next k = s.next k :=
  State.next_congr (by simp) (by simp) k
@[simp] theorem State.pointerSize_seen (p : Addr) (c : BusCycle) : (s.seen p c).pointerSize = s.pointerSize :=
  State.pointerSize_congr (by simp)
@[simp] theorem State.vectorAddr_seen (p : Addr) (c : BusCycle) (j : Byte) : (s.seen p c).vectorAddr j = s.vectorAddr j :=
  State.vectorAddr_congr (by simp) j

@[simp] theorem State.reg32_seeB (a : Addr) (er : ER) : (s.seeB a).reg32 er = s.reg32 er :=
  State.reg32_congr (by simp) er
@[simp] theorem State.reg16_seeB (a : Addr) (q : R16) : (s.seeB a).reg16 q = s.reg16 q :=
  State.reg16_congr (by simp) q
@[simp] theorem State.reg8_seeB (a : Addr) (q : R8) : (s.seeB a).reg8 q = s.reg8 q :=
  State.reg8_congr (by simp) q
@[simp] theorem State.flag_seeB (a : Addr) (g : Flag) : (s.seeB a).flag g = s.flag g :=
  State.flag_congr (by simp) g
@[simp] theorem State.red_seeB (a : Addr) (at_ : Addr) : (s.seeB a).red at_ = s.red at_ :=
  State.red_congr (by simp) at_
@[simp] theorem State.wordAddr_seeB (a : Addr) (at_ : Addr) : (s.seeB a).wordAddr at_ = s.wordAddr at_ :=
  State.wordAddr_congr (by simp) at_
@[simp] theorem State.pcForm_seeB (a : Addr) (at_ : Addr) : (s.seeB a).pcForm at_ = s.pcForm at_ :=
  State.pcForm_congr (by simp) at_
@[simp] theorem State.kindAt_seeB (a : Addr) (at_ : Addr) : (s.seeB a).kindAt at_ = s.kindAt at_ :=
  State.kindAt_congr (by simp) at_
@[simp] theorem State.next_seeB (a : Addr) (k : Nat) : (s.seeB a).next k = s.next k :=
  State.next_congr (by simp) (by simp) k
@[simp] theorem State.pointerSize_seeB (a : Addr) : (s.seeB a).pointerSize = s.pointerSize :=
  State.pointerSize_congr (by simp)
@[simp] theorem State.vectorAddr_seeB (a : Addr) (j : Byte) : (s.seeB a).vectorAddr j = s.vectorAddr j :=
  State.vectorAddr_congr (by simp) j

@[simp] theorem State.reg32_seeW (a : Addr) (er : ER) : (s.seeW a).reg32 er = s.reg32 er :=
  State.reg32_congr (by simp) er
@[simp] theorem State.reg16_seeW (a : Addr) (q : R16) : (s.seeW a).reg16 q = s.reg16 q :=
  State.reg16_congr (by simp) q
@[simp] theorem State.reg8_seeW (a : Addr) (q : R8) : (s.seeW a).reg8 q = s.reg8 q :=
  State.reg8_congr (by simp) q
@[simp] theorem State.flag_seeW (a : Addr) (g : Flag) : (s.seeW a).flag g = s.flag g :=
  State.flag_congr (by simp) g
@[simp] theorem State.red_seeW (a : Addr) (at_ : Addr) : (s.seeW a).red at_ = s.red at_ :=
  State.red_congr (by simp) at_
@[simp] theorem State.wordAddr_seeW (a : Addr) (at_ : Addr) : (s.seeW a).wordAddr at_ = s.wordAddr at_ :=
  State.wordAddr_congr (by simp) at_
@[simp] theorem State.pcForm_seeW (a : Addr) (at_ : Addr) : (s.seeW a).pcForm at_ = s.pcForm at_ :=
  State.pcForm_congr (by simp) at_
@[simp] theorem State.kindAt_seeW (a : Addr) (at_ : Addr) : (s.seeW a).kindAt at_ = s.kindAt at_ :=
  State.kindAt_congr (by simp) at_
@[simp] theorem State.next_seeW (a : Addr) (k : Nat) : (s.seeW a).next k = s.next k :=
  State.next_congr (by simp) (by simp) k
@[simp] theorem State.pointerSize_seeW (a : Addr) : (s.seeW a).pointerSize = s.pointerSize :=
  State.pointerSize_congr (by simp)
@[simp] theorem State.vectorAddr_seeW (a : Addr) (j : Byte) : (s.seeW a).vectorAddr j = s.vectorAddr j :=
  State.vectorAddr_congr (by simp) j

@[simp] theorem State.reg32_seeL (a : Addr) (er : ER) : (s.seeL a).reg32 er = s.reg32 er :=
  State.reg32_congr (by simp) er
@[simp] theorem State.reg16_seeL (a : Addr) (q : R16) : (s.seeL a).reg16 q = s.reg16 q :=
  State.reg16_congr (by simp) q
@[simp] theorem State.reg8_seeL (a : Addr) (q : R8) : (s.seeL a).reg8 q = s.reg8 q :=
  State.reg8_congr (by simp) q
@[simp] theorem State.flag_seeL (a : Addr) (g : Flag) : (s.seeL a).flag g = s.flag g :=
  State.flag_congr (by simp) g
@[simp] theorem State.red_seeL (a : Addr) (at_ : Addr) : (s.seeL a).red at_ = s.red at_ :=
  State.red_congr (by simp) at_
@[simp] theorem State.wordAddr_seeL (a : Addr) (at_ : Addr) : (s.seeL a).wordAddr at_ = s.wordAddr at_ :=
  State.wordAddr_congr (by simp) at_
@[simp] theorem State.pcForm_seeL (a : Addr) (at_ : Addr) : (s.seeL a).pcForm at_ = s.pcForm at_ :=
  State.pcForm_congr (by simp) at_
@[simp] theorem State.kindAt_seeL (a : Addr) (at_ : Addr) : (s.seeL a).kindAt at_ = s.kindAt at_ :=
  State.kindAt_congr (by simp) at_
@[simp] theorem State.next_seeL (a : Addr) (k : Nat) : (s.seeL a).next k = s.next k :=
  State.next_congr (by simp) (by simp) k
@[simp] theorem State.pointerSize_seeL (a : Addr) : (s.seeL a).pointerSize = s.pointerSize :=
  State.pointerSize_congr (by simp)
@[simp] theorem State.vectorAddr_seeL (a : Addr) (j : Byte) : (s.seeL a).vectorAddr j = s.vectorAddr j :=
  State.vectorAddr_congr (by simp) j

@[simp] theorem State.reg32_seePointer (a : Addr) (er : ER) : (s.seePointer a).reg32 er = s.reg32 er :=
  State.reg32_congr (by simp) er
@[simp] theorem State.reg16_seePointer (a : Addr) (q : R16) : (s.seePointer a).reg16 q = s.reg16 q :=
  State.reg16_congr (by simp) q
@[simp] theorem State.reg8_seePointer (a : Addr) (q : R8) : (s.seePointer a).reg8 q = s.reg8 q :=
  State.reg8_congr (by simp) q
@[simp] theorem State.flag_seePointer (a : Addr) (g : Flag) : (s.seePointer a).flag g = s.flag g :=
  State.flag_congr (by simp) g
@[simp] theorem State.red_seePointer (a : Addr) (at_ : Addr) : (s.seePointer a).red at_ = s.red at_ :=
  State.red_congr (by simp) at_
@[simp] theorem State.wordAddr_seePointer (a : Addr) (at_ : Addr) : (s.seePointer a).wordAddr at_ = s.wordAddr at_ :=
  State.wordAddr_congr (by simp) at_
@[simp] theorem State.pcForm_seePointer (a : Addr) (at_ : Addr) : (s.seePointer a).pcForm at_ = s.pcForm at_ :=
  State.pcForm_congr (by simp) at_
@[simp] theorem State.kindAt_seePointer (a : Addr) (at_ : Addr) : (s.seePointer a).kindAt at_ = s.kindAt at_ :=
  State.kindAt_congr (by simp) at_
@[simp] theorem State.next_seePointer (a : Addr) (k : Nat) : (s.seePointer a).next k = s.next k :=
  State.next_congr (by simp) (by simp) k
@[simp] theorem State.pointerSize_seePointer (a : Addr) : (s.seePointer a).pointerSize = s.pointerSize :=
  State.pointerSize_congr (by simp)
@[simp] theorem State.vectorAddr_seePointer (a : Addr) (j : Byte) : (s.seePointer a).vectorAddr j = s.vectorAddr j :=
  State.vectorAddr_congr (by simp) j

@[simp] theorem State.flag_pushReturn (ret : Addr) (g : Flag) : (s.pushReturn ret).flag g = s.flag g :=
  State.flag_congr (by simp) g
@[simp] theorem State.red_pushReturn (ret : Addr) (at_ : Addr) : (s.pushReturn ret).red at_ = s.red at_ :=
  State.red_congr (by simp) at_
@[simp] theorem State.wordAddr_pushReturn (ret : Addr) (at_ : Addr) : (s.pushReturn ret).wordAddr at_ = s.wordAddr at_ :=
  State.wordAddr_congr (by simp) at_
@[simp] theorem State.pcForm_pushReturn (ret : Addr) (at_ : Addr) : (s.pushReturn ret).pcForm at_ = s.pcForm at_ :=
  State.pcForm_congr (by simp) at_
@[simp] theorem State.kindAt_pushReturn (ret : Addr) (at_ : Addr) : (s.pushReturn ret).kindAt at_ = s.kindAt at_ :=
  State.kindAt_congr (by simp) at_
@[simp] theorem State.next_pushReturn (ret : Addr) (k : Nat) : (s.pushReturn ret).next k = s.next k :=
  State.next_congr (by simp) (by simp) k
@[simp] theorem State.pointerSize_pushReturn (ret : Addr) : (s.pushReturn ret).pointerSize = s.pointerSize :=
  State.pointerSize_congr (by simp)
@[simp] theorem State.vectorAddr_pushReturn (ret : Addr) (j : Byte) : (s.pushReturn ret).vectorAddr j = s.vectorAddr j :=
  State.vectorAddr_congr (by simp) j

@[simp] theorem State.flag_pushFrame (ret : Addr) (g : Flag) : (s.pushFrame ret).flag g = s.flag g :=
  State.flag_congr (by simp) g
@[simp] theorem State.red_pushFrame (ret : Addr) (at_ : Addr) : (s.pushFrame ret).red at_ = s.red at_ :=
  State.red_congr (by simp) at_
@[simp] theorem State.wordAddr_pushFrame (ret : Addr) (at_ : Addr) : (s.pushFrame ret).wordAddr at_ = s.wordAddr at_ :=
  State.wordAddr_congr (by simp) at_
@[simp] theorem State.pcForm_pushFrame (ret : Addr) (at_ : Addr) : (s.pushFrame ret).pcForm at_ = s.pcForm at_ :=
  State.pcForm_congr (by simp) at_
@[simp] theorem State.kindAt_pushFrame (ret : Addr) (at_ : Addr) : (s.pushFrame ret).kindAt at_ = s.kindAt at_ :=
  State.kindAt_congr (by simp) at_
@[simp] theorem State.next_pushFrame (ret : Addr) (k : Nat) : (s.pushFrame ret).next k = s.next k :=
  State.next_congr (by simp) (by simp) k
@[simp] theorem State.pointerSize_pushFrame (ret : Addr) : (s.pushFrame ret).pointerSize = s.pointerSize :=
  State.pointerSize_congr (by simp)
@[simp] theorem State.vectorAddr_pushFrame (ret : Addr) (j : Byte) : (s.pushFrame ret).vectorAddr j = s.vectorAddr j :=
  State.vectorAddr_congr (by simp) j

@[simp] theorem State.reg32_enterVector (k : Byte) (er : ER) : (s.enterVector k).reg32 er = s.reg32 er :=
  State.reg32_congr (by simp) er
@[simp] theorem State.reg16_enterVector (k : Byte) (q : R16) : (s.enterVector k).reg16 q = s.reg16 q :=
  State.reg16_congr (by simp) q
@[simp] theorem State.reg8_enterVector (k : Byte) (q : R8) : (s.enterVector k).reg8 q = s.reg8 q :=
  State.reg8_congr (by simp) q
@[simp] theorem State.flag_enterVector (k : Byte) (g : Flag) : (s.enterVector k).flag g = s.flag g :=
  State.flag_congr (by simp) g
@[simp] theorem State.red_enterVector (k : Byte) (at_ : Addr) : (s.enterVector k).red at_ = s.red at_ :=
  State.red_congr (by simp) at_
@[simp] theorem State.wordAddr_enterVector (k : Byte) (at_ : Addr) : (s.enterVector k).wordAddr at_ = s.wordAddr at_ :=
  State.wordAddr_congr (by simp) at_
@[simp] theorem State.pcForm_enterVector (k : Byte) (at_ : Addr) : (s.enterVector k).pcForm at_ = s.pcForm at_ :=
  State.pcForm_congr (by simp) at_
@[simp] theorem State.kindAt_enterVector (k : Byte) (at_ : Addr) : (s.enterVector k).kindAt at_ = s.kindAt at_ :=
  State.kindAt_congr (by simp) at_
@[simp] theorem State.pointerSize_enterVector (k : Byte) : (s.enterVector k).pointerSize = s.pointerSize :=
  State.pointerSize_congr (by simp)
@[simp] theorem State.vectorAddr_enterVector (k : Byte) (j : Byte) : (s.enterVector k).vectorAddr j = s.vectorAddr j :=
  State.vectorAddr_congr (by simp) j

@[simp] theorem State.red_exceptionEntry (k : Byte) (ret : Addr) (at_ : Addr) : (s.exceptionEntry k ret).red at_ = s.red at_ :=
  State.red_congr (by simp) at_
@[simp] theorem State.wordAddr_exceptionEntry (k : Byte) (ret : Addr) (at_ : Addr) : (s.exceptionEntry k ret).wordAddr at_ = s.wordAddr at_ :=
  State.wordAddr_congr (by simp) at_
@[simp] theorem State.pcForm_exceptionEntry (k : Byte) (ret : Addr) (at_ : Addr) : (s.exceptionEntry k ret).pcForm at_ = s.pcForm at_ :=
  State.pcForm_congr (by simp) at_
@[simp] theorem State.kindAt_exceptionEntry (k : Byte) (ret : Addr) (at_ : Addr) : (s.exceptionEntry k ret).kindAt at_ = s.kindAt at_ :=
  State.kindAt_congr (by simp) at_
@[simp] theorem State.pointerSize_exceptionEntry (k : Byte) (ret : Addr) : (s.exceptionEntry k ret).pointerSize = s.pointerSize :=
  State.pointerSize_congr (by simp)
@[simp] theorem State.vectorAddr_exceptionEntry (k : Byte) (ret : Addr) (j : Byte) : (s.exceptionEntry k ret).vectorAddr j = s.vectorAddr j :=
  State.vectorAddr_congr (by simp) j

@[simp] theorem MemOperand.flag_step (m : MemOperand) (size : Nat) (g : Flag) : (m.step size s).flag g = s.flag g :=
  State.flag_congr (by simp) g
@[simp] theorem MemOperand.red_step (m : MemOperand) (size : Nat) (at_ : Addr) : (m.step size s).red at_ = s.red at_ :=
  State.red_congr (by simp) at_
@[simp] theorem MemOperand.wordAddr_step (m : MemOperand) (size : Nat) (at_ : Addr) : (m.step size s).wordAddr at_ = s.wordAddr at_ :=
  State.wordAddr_congr (by simp) at_
@[simp] theorem MemOperand.pcForm_step (m : MemOperand) (size : Nat) (at_ : Addr) : (m.step size s).pcForm at_ = s.pcForm at_ :=
  State.pcForm_congr (by simp) at_
@[simp] theorem MemOperand.kindAt_step (m : MemOperand) (size : Nat) (at_ : Addr) : (m.step size s).kindAt at_ = s.kindAt at_ :=
  State.kindAt_congr (by simp) at_
@[simp] theorem MemOperand.next_step (m : MemOperand) (size : Nat) (k : Nat) : (m.step size s).next k = s.next k :=
  State.next_congr (by simp) (by simp) k
@[simp] theorem MemOperand.pointerSize_step (m : MemOperand) (size : Nat) : (m.step size s).pointerSize = s.pointerSize :=
  State.pointerSize_congr (by simp)
@[simp] theorem MemOperand.vectorAddr_step (m : MemOperand) (size : Nat) (j : Byte) : (m.step size s).vectorAddr j = s.vectorAddr j :=
  State.vectorAddr_congr (by simp) j

@[simp] theorem State.reg32_readAhead (a : Addr) (er : ER) : (s.readAhead a).reg32 er = s.reg32 er :=
  State.reg32_congr (by simp) er
@[simp] theorem State.reg16_readAhead (a : Addr) (q : R16) : (s.readAhead a).reg16 q = s.reg16 q :=
  State.reg16_congr (by simp) q
@[simp] theorem State.reg8_readAhead (a : Addr) (q : R8) : (s.readAhead a).reg8 q = s.reg8 q :=
  State.reg8_congr (by simp) q
@[simp] theorem State.flag_readAhead (a : Addr) (g : Flag) : (s.readAhead a).flag g = s.flag g :=
  State.flag_congr (by simp) g
@[simp] theorem State.red_readAhead (a : Addr) (at_ : Addr) : (s.readAhead a).red at_ = s.red at_ :=
  State.red_congr (by simp) at_
@[simp] theorem State.wordAddr_readAhead (a : Addr) (at_ : Addr) : (s.readAhead a).wordAddr at_ = s.wordAddr at_ :=
  State.wordAddr_congr (by simp) at_
@[simp] theorem State.pcForm_readAhead (a : Addr) (at_ : Addr) : (s.readAhead a).pcForm at_ = s.pcForm at_ :=
  State.pcForm_congr (by simp) at_
@[simp] theorem State.kindAt_readAhead (a : Addr) (at_ : Addr) : (s.readAhead a).kindAt at_ = s.kindAt at_ :=
  State.kindAt_congr (by simp) at_
@[simp] theorem State.next_readAhead (a : Addr) (k : Nat) : (s.readAhead a).next k = s.next k :=
  State.next_congr (by simp) (by simp) k
@[simp] theorem State.pointerSize_readAhead (a : Addr) : (s.readAhead a).pointerSize = s.pointerSize :=
  State.pointerSize_congr (by simp)
@[simp] theorem State.vectorAddr_readAhead (a : Addr) (j : Byte) : (s.readAhead a).vectorAddr j = s.vectorAddr j :=
  State.vectorAddr_congr (by simp) j

@[simp] theorem State.reg32_fetchDue (er : ER) : (s.fetchDue).reg32 er = s.reg32 er :=
  State.reg32_congr (by simp) er
@[simp] theorem State.reg16_fetchDue (q : R16) : (s.fetchDue).reg16 q = s.reg16 q :=
  State.reg16_congr (by simp) q
@[simp] theorem State.reg8_fetchDue (q : R8) : (s.fetchDue).reg8 q = s.reg8 q :=
  State.reg8_congr (by simp) q
@[simp] theorem State.flag_fetchDue (g : Flag) : (s.fetchDue).flag g = s.flag g :=
  State.flag_congr (by simp) g
@[simp] theorem State.red_fetchDue (at_ : Addr) : (s.fetchDue).red at_ = s.red at_ :=
  State.red_congr (by simp) at_
@[simp] theorem State.wordAddr_fetchDue (at_ : Addr) : (s.fetchDue).wordAddr at_ = s.wordAddr at_ :=
  State.wordAddr_congr (by simp) at_
@[simp] theorem State.pcForm_fetchDue (at_ : Addr) : (s.fetchDue).pcForm at_ = s.pcForm at_ :=
  State.pcForm_congr (by simp) at_
@[simp] theorem State.kindAt_fetchDue (at_ : Addr) : (s.fetchDue).kindAt at_ = s.kindAt at_ :=
  State.kindAt_congr (by simp) at_
@[simp] theorem State.next_fetchDue (k : Nat) : (s.fetchDue).next k = s.next k :=
  State.next_congr (by simp) (by simp) k
@[simp] theorem State.pointerSize_fetchDue : (s.fetchDue).pointerSize = s.pointerSize :=
  State.pointerSize_congr (by simp)
@[simp] theorem State.vectorAddr_fetchDue (j : Byte) : (s.fetchDue).vectorAddr j = s.vectorAddr j :=
  State.vectorAddr_congr (by simp) j

@[simp] theorem State.reg32_readTarget (a : Addr) (er : ER) : (s.readTarget a).reg32 er = s.reg32 er :=
  State.reg32_congr (by simp) er
@[simp] theorem State.reg16_readTarget (a : Addr) (q : R16) : (s.readTarget a).reg16 q = s.reg16 q :=
  State.reg16_congr (by simp) q
@[simp] theorem State.reg8_readTarget (a : Addr) (q : R8) : (s.readTarget a).reg8 q = s.reg8 q :=
  State.reg8_congr (by simp) q
@[simp] theorem State.flag_readTarget (a : Addr) (g : Flag) : (s.readTarget a).flag g = s.flag g :=
  State.flag_congr (by simp) g
@[simp] theorem State.red_readTarget (a : Addr) (at_ : Addr) : (s.readTarget a).red at_ = s.red at_ :=
  State.red_congr (by simp) at_
@[simp] theorem State.wordAddr_readTarget (a : Addr) (at_ : Addr) : (s.readTarget a).wordAddr at_ = s.wordAddr at_ :=
  State.wordAddr_congr (by simp) at_
@[simp] theorem State.pcForm_readTarget (a : Addr) (at_ : Addr) : (s.readTarget a).pcForm at_ = s.pcForm at_ :=
  State.pcForm_congr (by simp) at_
@[simp] theorem State.kindAt_readTarget (a : Addr) (at_ : Addr) : (s.readTarget a).kindAt at_ = s.kindAt at_ :=
  State.kindAt_congr (by simp) at_
@[simp] theorem State.next_readTarget (a : Addr) (k : Nat) : (s.readTarget a).next k = s.next k :=
  State.next_congr (by simp) (by simp) k
@[simp] theorem State.pointerSize_readTarget (a : Addr) : (s.readTarget a).pointerSize = s.pointerSize :=
  State.pointerSize_congr (by simp)
@[simp] theorem State.vectorAddr_readTarget (a : Addr) (j : Byte) : (s.readTarget a).vectorAddr j = s.vectorAddr j :=
  State.vectorAddr_congr (by simp) j

end Sys2Proof.Machine
end

