-- ==== Sys2Proof/Laws/Registers.lean ====
section
/-! SUPPORT. Registers and flags read after they are written (R41, R42, R55). -/

namespace Sys2Proof.Machine

variable (s : State)

theorem Regs.get_set (r : Regs) (n m : ER) (v : Long) : (r.set n v).get m = if m = n then v else r.get m := by
  cases n <;> cases m <;> rfl

@[simp] theorem State.setReg32_regs (n : ER) (v : Long) : (s.setReg32 n v).regs = s.regs.set n v := rfl

theorem State.reg32_setReg32 (n m : ER) (v : Long) :
    (s.setReg32 n v).reg32 m = if m = n then v else s.reg32 m := Regs.get_set _ _ _ _

@[simp] theorem State.reg32_setReg32_same (n : ER) (v : Long) : (s.setReg32 n v).reg32 n = v := by
  simp [State.reg32_setReg32]

theorem State.reg32_setReg32_ne {n m : ER} (h : m ≠ n) (v : Long) :
    (s.setReg32 n v).reg32 m = s.reg32 m := by
  simp [State.reg32_setReg32, h]

/-- The upper half of a longword put together from two words. -/
theorem extract_upper (a b : Word) : (a ++ b : Long).extractLsb' 16 16 = a := by
  exact BitVec.extractLsb'_append_eq_left

/-- The lower half of a longword put together from two words. -/
theorem extract_lower (a b : Word) : (a ++ b : Long).extractLsb' 0 16 = b := by
  exact BitVec.extractLsb'_append_eq_right

/-- The register a 16-bit view belongs to. -/
def whole16 : R16 → ER
  | .r n => n
  | .e n => n

/-- The register an 8-bit view belongs to. -/
def whole8 : R8 → ER
  | .h n => n
  | .l n => n

/-- A 16-bit register written: it holds the value, and every other 16-bit register is as before. -/
theorem State.reg16_setReg16 (r q : R16) (v : Word) :
    (s.setReg16 r v).reg16 q = if q = r then v else s.reg16 q := by
  cases r with
  | r n =>
    cases q with
    | r m =>
      by_cases h : m = n
      · subst h; simp [State.setReg16, State.reg16, extract_lower]
      · simp [State.setReg16, State.reg16, State.reg32_setReg32, h]
    | e m =>
      by_cases h : m = n
      · subst h; simp [State.setReg16, State.reg16, extract_upper]
      · simp [State.setReg16, State.reg16, State.reg32_setReg32, h]
  | e n =>
    cases q with
    | r m =>
      by_cases h : m = n
      · subst h; simp [State.setReg16, State.reg16, extract_lower]
      · simp [State.setReg16, State.reg16, State.reg32_setReg32, h]
    | e m =>
      by_cases h : m = n
      · subst h; simp [State.setReg16, State.reg16, extract_upper]
      · simp [State.setReg16, State.reg16, State.reg32_setReg32, h]

@[simp] theorem State.reg16_setReg16_same (r : R16) (v : Word) : (s.setReg16 r v).reg16 r = v := by
  simp [State.reg16_setReg16]

theorem byte_of_three (a : Word) (b c : Byte) : (a ++ b ++ c : Long).extractLsb' 8 8 = b := by
  rw [BitVec.extractLsb'_append_eq_of_le (by omega)]
  exact BitVec.extractLsb'_append_eq_right

theorem low_of_three (a : Word) (b c : Byte) : (a ++ b ++ c : Long).extractLsb' 0 8 = c :=
  BitVec.extractLsb'_append_eq_right

theorem top_of_three (a : Word) (b c : Byte) : (a ++ b ++ c : Long).extractLsb' 16 16 = a := by
  rw [BitVec.extractLsb'_append_eq_of_le (by omega)]
  exact BitVec.extractLsb'_append_eq_left

theorem low_of_two (a : BitVec 24) (b : Byte) : (a ++ b : Long).extractLsb' 0 8 = b :=
  BitVec.extractLsb'_append_eq_right

theorem byte_above (v : Long) (b : Byte) : (v.extractLsb' 8 24 ++ b : Long).extractLsb' 8 8 = v.extractLsb' 8 8 := by
  rw [BitVec.extractLsb'_append_eq_of_le (by omega)]
  ext i hi
  simp only [BitVec.getElem_extractLsb', BitVec.getLsbD_extractLsb']
  rw [decide_eq_true (by omega), Bool.true_and]
  congr 1; omega

theorem word_above (v : Long) (b : Byte) :
    (v.extractLsb' 8 24 ++ b : Long).extractLsb' 16 16 = v.extractLsb' 16 16 := by
  rw [BitVec.extractLsb'_append_eq_of_le (by omega)]
  ext i hi
  simp only [BitVec.getElem_extractLsb', BitVec.getLsbD_extractLsb']
  rw [decide_eq_true (by omega), Bool.true_and]
  congr 1; omega

/-- An 8-bit register written: it holds the value, and every other 8-bit register is as before. -/
theorem State.reg8_setReg8 (r q : R8) (v : Byte) :
    (s.setReg8 r v).reg8 q = if q = r then v else s.reg8 q := by
  cases r with
  | h n =>
    cases q with
    | h m =>
      by_cases h : m = n
      · subst h; simp [State.setReg8, State.reg8, byte_of_three]
      · simp [State.setReg8, State.reg8, State.reg32_setReg32, h]
    | l m =>
      by_cases h : m = n
      · subst h; simp [State.setReg8, State.reg8, low_of_three]
      · simp [State.setReg8, State.reg8, State.reg32_setReg32, h]
  | l n =>
    cases q with
    | h m =>
      by_cases h : m = n
      · subst h; simp [State.setReg8, State.reg8, byte_above]
      · simp [State.setReg8, State.reg8, State.reg32_setReg32, h]
    | l m =>
      by_cases h : m = n
      · subst h; simp [State.setReg8, State.reg8, low_of_two]
      · simp [State.setReg8, State.reg8, State.reg32_setReg32, h]

@[simp] theorem State.reg8_setReg8_same (r : R8) (v : Byte) : (s.setReg8 r v).reg8 r = v := by
  simp [State.reg8_setReg8]

/-- An 8-bit register written leaves every extended register as before. -/
@[simp] theorem State.reg16_e_setReg8 (r : R8) (n : ER) (v : Byte) :
    (s.setReg8 r v).reg16 (.e n) = s.reg16 (.e n) := by
  cases r with
  | h m =>
    by_cases h : n = m
    · subst h; simp [State.setReg8, State.reg16, top_of_three]
    · simp [State.setReg8, State.reg16, State.reg32_setReg32, h]
  | l m =>
    by_cases h : n = m
    · subst h; simp [State.setReg8, State.reg16, word_above]
    · simp [State.setReg8, State.reg16, State.reg32_setReg32, h]

/-- An 8-bit register written leaves every other longword register as before. -/
theorem State.reg32_setReg8_ne {r : R8} {n : ER} (h : n ≠ whole8 r) (v : Byte) :
    (s.setReg8 r v).reg32 n = s.reg32 n := by
  cases r <;> simp_all [State.setReg8, whole8, State.reg32_setReg32]

/-- A 16-bit register written leaves every other longword register as before. -/
theorem State.reg32_setReg16_ne {r : R16} {n : ER} (h : n ≠ whole16 r) (v : Word) :
    (s.setReg16 r v).reg32 n = s.reg32 n := by
  cases r <;> simp_all [State.setReg16, whole16, State.reg32_setReg32]

/-! ### Flags -/

theorem putBit_getLsbD (b : Byte) (n k : Nat) (x : Bool) (hk : k < 8) :
    (putBit b n x).getLsbD k = if k = n then x else b.getLsbD k := by
  unfold putBit
  by_cases h : k = n
  · subst h; cases x <;> simp [hk]
  · cases x <;> simp [hk, h]

theorem Flag.bit_lt (f : Flag) : f.bit < 8 := by cases f <;> decide

theorem Flag.bit_inj {f g : Flag} : f.bit = g.bit ↔ f = g := by
  cases f <;> cases g <;> simp [Flag.bit]

theorem State.flag_setFlag (f g : Flag) (x : Bool) :
    (s.setFlag f x).flag g = if g = f then x else s.flag g := by
  simp only [State.flag, State.setFlag, putBit_getLsbD _ _ _ _ (Flag.bit_lt g), Flag.bit_inj]

theorem State.flag_setNZ {w : Nat} (r : BitVec w) (g : Flag) :
    (s.setNZ r).flag g = if g = .z then r == 0 else if g = .n then r.msb else s.flag g := by
  simp [State.setNZ, State.flag_setFlag]

theorem State.flag_setNZV0 {w : Nat} (r : BitVec w) (g : Flag) :
    (s.setNZV0 r).flag g =
      if g = .v then false else if g = .z then r == 0 else if g = .n then r.msb else s.flag g := by
  simp [State.setNZV0, State.flag_setFlag, State.flag_setNZ]

theorem State.flag_setAddFlags {w : Nat} (a b : BitVec w) (c : Bool) (g : Flag) :
    (s.setAddFlags a b c).flag g =
      if g = .c then carryOut a b c (w - 1) else if g = .v then addOverflow a b c
      else if g = .z then sum a b c == 0 else if g = .n then (sum a b c).msb
      else if g = .h then carryOut a b c (w - 5) else s.flag g := by
  simp [State.setAddFlags, State.flag_setFlag, State.flag_setNZ]

theorem State.flag_setSubFlags {w : Nat} (a b : BitVec w) (c : Bool) (g : Flag) :
    (s.setSubFlags a b c).flag g =
      if g = .c then borrow a b c (w - 1) else if g = .v then subOverflow a b c
      else if g = .z then difference a b c == 0 else if g = .n then (difference a b c).msb
      else if g = .h then borrow a b c (w - 5) else s.flag g := by
  simp [State.setSubFlags, State.flag_setFlag, State.flag_setNZ]

theorem State.flag_stickyZ {w : Nat} (z : Bool) (r : BitVec w) (g : Flag) :
    (s.stickyZ z r).flag g = if g = .z then z && (r == 0) else s.flag g := by
  simp [State.stickyZ, State.flag_setFlag]

theorem State.flag_setDivFlags (n z : Bool) (g : Flag) :
    (s.setDivFlags n z).flag g = if g = .z then z else if g = .n then n else s.flag g := by
  simp [State.setDivFlags, State.flag_setFlag]

theorem State.flag_setShiftFlags {w : Nat} (x : Shifted w) (g : Flag) :
    (s.setShiftFlags x).flag g =
      if g = .c then x.carry else if g = .v then x.overflow else if g = .z then x.result == 0
      else if g = .n then x.result.msb else s.flag g := by
  simp [State.setShiftFlags, State.flag_setFlag, State.flag_setNZ]

/-- CCR is its eight flags. -/
theorem ccr_eq_of_flags {s t : State} (h : ∀ f : Flag, t.flag f = s.flag f) : t.ccr = s.ccr := by
  apply BitVec.eq_of_getLsbD_eq
  intro i hi
  have : i = 0 ∨ i = 1 ∨ i = 2 ∨ i = 3 ∨ i = 4 ∨ i = 5 ∨ i = 6 ∨ i = 7 := by omega
  rcases this with rfl | rfl | rfl | rfl | rfl | rfl | rfl | rfl
  · exact h .c
  · exact h .v
  · exact h .z
  · exact h .n
  · exact h .u
  · exact h .h
  · exact h .ui
  · exact h .i

end Sys2Proof.Machine
end

