-- ==== Sys2Proof/Laws/Ops.lean ====
section
/-! SUPPORT. What a memory access can do, said once, and that every access keeps memory's canonical
form. -/

namespace Sys2Proof.Machine

variable (s : State)

/-! ### Addresses -/

/-- The lower byte of a word stands at the next address. -/
theorem State.wordAddr_low (a : Addr) : (s.wordAddr a).getLsbD 0 = false := by
  simp [State.wordAddr, even]

theorem even_even (a : Addr) : even (even a) = even a := by
  unfold even; rw [BitVec.and_assoc]; simp

theorem State.red_red (a : Addr) : s.red (s.red a) = s.red a := by
  unfold State.red; split
  · rw [BitVec.and_assoc]; simp
  · rfl

theorem State.red_even (a : Addr) : s.red (even a) = even (s.red a) := by
  unfold State.red even; split
  · rw [BitVec.and_assoc, BitVec.and_assoc]; simp
  · rfl

/-- A stored PC is in its form (R51). -/
theorem State.pcForm_pcForm (a : Addr) : s.pcForm (s.pcForm a) = s.pcForm a := by
  unfold State.pcForm; rw [s.red_even, s.red_red, even_even]

theorem State.wordAddr_wordAddr (a : Addr) : s.wordAddr (s.wordAddr a) = s.wordAddr a := s.pcForm_pcForm a

/-! ### Writes -/

/-- A write cycle changes memory, or nothing, or the transcript alone. -/
theorem State.written_cases (p : Addr) (c : BusCycle) (m : Memory) :
    (s.kindAt p = none ∧ s.written p c m = { s with mem := m }) ∨
    (s.kindAt p = some .absent ∧ s.written p c m = s) ∨
    (s.kindAt p = some .device ∧ s.written p c m = { s with bus := c :: s.bus }) := by
  unfold State.written
  split <;> simp_all

/-- Bytes outside the one a byte store addresses are as before. -/
theorem State.storeB_get_ne {a : Addr} {b : Nat} (h : b ≠ (s.red a).toNat) (v : Byte) :
    (s.storeB a v).mem.get b = s.mem.get b := by
  unfold State.storeB
  rcases s.written_cases (s.red a) (.writeByte (s.red a) v) (s.mem.set (s.red a).toNat v) with
    ⟨_, e⟩ | ⟨_, e⟩ | ⟨_, e⟩ <;> simp [e, Memory.get_set, h]

/-- A byte stored to ordinary memory is there. -/
theorem State.storeB_get_same {a : Addr} (hk : s.kindAt (s.red a) = none) (v : Byte) :
    (s.storeB a v).mem.get (s.red a).toNat = v := by
  simp [State.storeB, State.written, hk, Memory.get_set]

theorem Memory.get_put (m : Memory) (a b : Nat) (x : StoredByte) :
    (m.put a x).get b = if b = a then x.byte else m.get b := by
  cases x
  · exact Memory.get_set m a b _
  · exact Memory.get_setOpen m a b _

/-- Bytes outside the two a word store addresses are as before. -/
theorem State.storeBytes_get_ne {a : Addr} {b : Nat} (h0 : b ≠ (s.wordAddr a).toNat)
    (h1 : b ≠ (s.red (s.wordAddr a + 1#24)).toNat) (x y : StoredByte) :
    (s.storeBytes a x y).mem.get b = s.mem.get b := by
  unfold State.storeBytes
  rcases s.written_cases (s.wordAddr a) (.writeWord (s.wordAddr a) (x.byte ++ y.byte))
    ((s.mem.put (s.wordAddr a).toNat x).put (s.red (s.wordAddr a + 1#24)).toNat y) with
    ⟨_, e⟩ | ⟨_, e⟩ | ⟨_, e⟩ <;> simp [e, Memory.get_put, h0, h1]

/-- Bytes outside the two a word store addresses are as before. -/
theorem State.storeW_get_ne {a : Addr} {b : Nat} (h0 : b ≠ (s.wordAddr a).toNat)
    (h1 : b ≠ (s.red (s.wordAddr a + 1#24)).toNat) (v : Word) :
    (s.storeW a v).mem.get b = s.mem.get b := s.storeBytes_get_ne h0 h1 _ _

/-! ### The canonical form is kept -/

theorem Memory.wf_put {m : Memory} (h : m.wf = true) {a : Nat} (ha : a < 2 ^ 24) (x : StoredByte) :
    (m.put a x).wf = true := by
  cases x
  · exact Memory.wf_set h ha _
  · exact Memory.wf_setOpen h ha _

theorem State.written_wf (p : Addr) (c : BusCycle) (m : Memory) (h : s.mem.wf = true) (hm : m.wf = true) :
    (s.written p c m).mem.wf = true := by
  rcases s.written_cases p c m with ⟨_, e⟩ | ⟨_, e⟩ | ⟨_, e⟩ <;> simp [e, h, hm]

theorem State.storeB_wf (h : s.mem.wf = true) (a : Addr) (v : Byte) : (s.storeB a v).mem.wf = true :=
  s.written_wf _ _ _ h (Memory.wf_set h (BitVec.isLt _) _)

theorem State.storeBytes_wf (h : s.mem.wf = true) (a : Addr) (x y : StoredByte) :
    (s.storeBytes a x y).mem.wf = true :=
  s.written_wf _ _ _ h (Memory.wf_put (Memory.wf_put h (BitVec.isLt _) _) (BitVec.isLt _) _)

theorem State.storeW_wf (h : s.mem.wf = true) (a : Addr) (v : Word) : (s.storeW a v).mem.wf = true :=
  s.storeBytes_wf h _ _ _

theorem State.storeL_wf (h : s.mem.wf = true) (a : Addr) (v : Long) : (s.storeL a v).mem.wf = true :=
  (s.storeW a _).storeW_wf (s.storeW_wf h _ _) _ _

theorem State.pushReturn_wf (h : s.mem.wf = true) (ret : Addr) : (s.pushReturn ret).mem.wf = true := by
  unfold State.pushReturn
  split
  · dsimp only
    apply State.storeW_wf
    simpa using h
  · dsimp only
    rw [State.drawn_mem]
    apply State.storeW_wf
    apply State.storeBytes_wf
    simpa using h

theorem State.pushFrame_wf (h : s.mem.wf = true) (ret : Addr) : (s.pushFrame ret).mem.wf = true := by
  unfold State.pushFrame
  apply State.storeW_wf
  apply State.storeW_wf
  simpa using h

theorem State.exceptionEntry_wf (h : s.mem.wf = true) (k : Byte) (ret : Addr) :
    (s.exceptionEntry k ret).mem.wf = true := by
  unfold State.exceptionEntry
  rw [State.enterVector_mem, State.maskInterrupts_mem]
  exact s.pushFrame_wf h ret

theorem State.masterWrites_wf (h : s.mem.wf = true) (a : Addr) (v : Byte) :
    (s.masterWrites a v).mem.wf = true := by
  unfold State.masterWrites
  split
  · exact Memory.wf_set h (BitVec.isLt _) _
  · exact h

end Sys2Proof.Machine
end

