-- ==== Sys2Proof/Laws/Flags.lean ====
section
/-! SUPPORT. The flag computations against arithmetic: what carry, borrow and overflow say of the exact
result (R19), and the flag parts of the effects of Safety. -/

namespace Sys2Proof.Machine

variable {w : Nat}
theorem two_pow_split (hw : 0 < w) : 2 ^ w = 2 * 2 ^ (w - 1) := by
  cases w with
  | zero => omega
  | succ n => simp [Nat.pow_succ, Nat.mul_comm]

theorem addOverflow_eq (hw : 0 < w) (a b : BitVec w) (c : Bool) :
    addOverflow a b c = decide (a.toInt + b.toInt + c.toNat ≠ (sum a b c).toInt) := by
  have h2 := two_pow_split hw
  have hone : 0 < 2 ^ (w - 1) := Nat.two_pow_pos _
  have ha := a.isLt
  have hb := b.isLt
  have hs : (sum a b c).toNat = (a.toNat + b.toNat + c.toNat) % 2 ^ w := by
    simp only [sum, BitVec.toNat_add, BitVec.toNat_ofNat]
    simp [Nat.add_mod]
  have hc : c.toNat ≤ 1 := by cases c <;> simp
  have hmod : (a.toNat + b.toNat + c.toNat) % 2 ^ w =
      if a.toNat + b.toNat + c.toNat < 2 ^ w then a.toNat + b.toNat + c.toNat
      else a.toNat + b.toNat + c.toNat - 2 ^ w := by
    split
    · exact Nat.mod_eq_of_lt ‹_›
    · rw [Nat.mod_eq_sub_mod (by omega), Nat.mod_eq_of_lt (by omega)]
  rw [hmod] at hs
  unfold addOverflow
  simp only [BitVec.msb_eq_decide, BitVec.toInt_eq_toNat_cond, hs]
  generalize a.toNat = x at *
  generalize b.toNat = y at *
  generalize c.toNat = z at *
  generalize 2 ^ (w - 1) = m at *
  simp only [h2] at *
  clear hmod hs h2 hw
  rw [Bool.eq_iff_iff]
  simp only [Bool.and_eq_true, beq_iff_eq, bne_iff_ne, ne_eq, decide_eq_true_eq, decide_eq_decide]
  split_ifs <;> omega

theorem sum_toNat (a b : BitVec w) (c : Bool) :
    (sum a b c).toNat = (a.toNat + b.toNat + c.toNat) % 2 ^ w := by
  simp [sum, BitVec.toNat_add, BitVec.toNat_ofNat, Nat.add_mod]

theorem subOverflow_eq (hw : 0 < w) (a b : BitVec w) (c : Bool) :
    subOverflow a b c = decide (a.toInt - b.toInt - c.toNat ≠ (difference a b c).toInt) := by
  have h2 := two_pow_split hw
  have hone : 0 < 2 ^ (w - 1) := Nat.two_pow_pos _
  have ha := a.isLt
  have hb := b.isLt
  have hc : c.toNat ≤ 1 := by cases c <;> simp
  have hc' : (BitVec.ofNat w c.toNat).toNat = c.toNat := by
    rw [BitVec.toNat_ofNat, Nat.mod_eq_of_lt (by omega)]
  have h1 : (a - b).toNat = if b.toNat ≤ a.toNat then a.toNat - b.toNat else 2 ^ w + a.toNat - b.toNat := by
    rw [BitVec.toNat_sub]
    split
    · rw [show 2 ^ w - b.toNat + a.toNat = (a.toNat - b.toNat) + 2 ^ w by omega, Nat.add_mod_right,
        Nat.mod_eq_of_lt (by omega)]
    · rw [Nat.mod_eq_of_lt (by omega)]; omega
  have hd : (difference a b c).toNat = if c.toNat ≤ (a - b).toNat then (a - b).toNat - c.toNat
      else 2 ^ w + (a - b).toNat - c.toNat := by
    have hlt := (a - b).isLt
    unfold difference
    rw [BitVec.toNat_sub, hc']
    split
    · rw [show 2 ^ w - c.toNat + (a - b).toNat = ((a - b).toNat - c.toNat) + 2 ^ w by omega, Nat.add_mod_right,
        Nat.mod_eq_of_lt (by omega)]
    · rw [Nat.mod_eq_of_lt (by omega)]; omega
  unfold subOverflow
  simp only [BitVec.msb_eq_decide, BitVec.toInt_eq_toNat_cond, hd, h1]
  generalize a.toNat = x at *
  generalize b.toNat = y at *
  generalize c.toNat = z at *
  generalize 2 ^ (w - 1) = m at *
  simp only [h2] at *
  clear hc' h2 hw h1 hd
  rw [Bool.eq_iff_iff]
  simp only [Bool.and_eq_true, bne_iff_ne, ne_eq, decide_eq_true_eq, decide_eq_decide]
  split_ifs <;> omega

/-- The flags of a transfer hold after `setNZV0`. -/
theorem transferFlags_of {s t : State} {v : BitVec w} (h : t.ccr = (s.setNZV0 v).ccr) : TransferFlags v s t := by
  refine ⟨?_, ?_, ?_, fun f hf => ?_⟩ <;> rw [State.flag_congr h, State.flag_setNZV0] <;> simp_all [beq_eq_decide]

/-- The flags of an addition hold after `setAddFlags`. -/
theorem addFlags_of (hw : 5 ≤ w) {s t : State} {a b : BitVec w} {c : Bool} (h : t.ccr = (s.setAddFlags a b c).ccr) :
    AddFlags a b c s t ∧ t.flag .z = isZero (sum a b c) := by
  refine ⟨⟨?_, ?_, ?_, ?_, fun f hf => ?_⟩, ?_⟩ <;> rw [State.flag_congr h, State.flag_setAddFlags]
  · simp [carryOut, show w - 5 + 1 = w - 4 by omega]
  · simp [sum]
  · simp only [if_false, reduceCtorEq, if_true]; exact addOverflow_eq (by omega) a b c
  · simp [carryOut, show w - 1 + 1 = w by omega, Nat.mod_eq_of_lt a.isLt, Nat.mod_eq_of_lt b.isLt]
  · simp_all
  · simp [isZero, beq_eq_decide]

/-- The flags of a subtraction hold after `setSubFlags`. -/
theorem subFlags_of (hw : 5 ≤ w) {s t : State} {a b : BitVec w} {c : Bool} (h : t.ccr = (s.setSubFlags a b c).ccr) :
    SubFlags a b c s t ∧ t.flag .z = isZero (difference a b c) := by
  refine ⟨⟨?_, ?_, ?_, ?_, fun f hf => ?_⟩, ?_⟩ <;> rw [State.flag_congr h, State.flag_setSubFlags]
  · simp [borrow, show w - 5 + 1 = w - 4 by omega]
  · simp [difference]
  · simp only [if_false, reduceCtorEq, if_true]; exact subOverflow_eq (by omega) a b c
  · simp [borrow, show w - 1 + 1 = w by omega, Nat.mod_eq_of_lt a.isLt, Nat.mod_eq_of_lt b.isLt]
  · simp_all
  · simp [isZero, beq_eq_decide]

end Sys2Proof.Machine
end

