-- ==== Sys2Proof/Laws/Effects.lean ====
section
/-! SUPPORT. What each shared operation does, said once in the words of Safety: the provers cite these
instead of unfolding the operations. -/

namespace Sys2Proof.Machine

variable {s t : State}

/-! ### Building the parts -/

theorem wrote8_of {rd : R8} {v : Byte} (h : t.regs = (s.setReg8 rd v).regs) : Wrote8 rd v s t := by
  refine ⟨?_, fun r hr => ?_, fun n => ?_⟩
  · rw [State.reg8_congr h, State.reg8_setReg8_same]
  · rw [State.reg8_congr h, State.reg8_setReg8, if_neg hr]
  · rw [State.reg16_congr h, State.reg16_e_setReg8]

theorem wrote16_of {rd : R16} {v : Word} (h : t.regs = (s.setReg16 rd v).regs) : Wrote16 rd v s t := by
  refine ⟨?_, fun r hr => ?_⟩
  · rw [State.reg16_congr h, State.reg16_setReg16_same]
  · rw [State.reg16_congr h, State.reg16_setReg16, if_neg hr]

theorem wrote32_of {rd : ER} {v : Long} (h : t.regs = (s.setReg32 rd v).regs) : Wrote32 rd v s t := by
  refine ⟨?_, fun r hr => ?_⟩
  · rw [State.reg32_congr h, State.reg32_setReg32_same]
  · rw [State.reg32_congr h, State.reg32_setReg32_ne _ hr]

theorem sameRegs_of (h : t.regs = s.regs) : SameRegs s t := fun n => State.reg32_congr h n

theorem sameMemory_of (h : t.mem = s.mem) : SameMemory s t := fun a => by rw [h]

/-- The fields besides registers, CCR and PC are equal. -/
structure Rest (s t : State) : Prop where
  mem : t.mem = s.mem
  pstate : t.pstate = s.pstate
  irqInhibit : t.irqInhibit = s.irqInhibit
  prefetch : t.prefetch = s.prefetch
  par : t.par = s.par
  ssby : t.ssby = s.ssby
  host : t.host = s.host
  bus : t.bus = s.bus
  draws : t.draws = s.draws

theorem Rest.control (h : Rest s t) : SameControl s t :=
  ⟨h.pstate, h.irqInhibit, h.prefetch, h.par, h.ssby, h.host⟩

theorem Rest.quiet (h : Rest s t) : Quiet s t := ⟨sameMemory_of h.mem, h.control, h.bus, h.draws⟩

theorem Rest.trans {u : State} (h : Rest s t) (k : Rest t u) : Rest s u := by
  cases h; cases k; constructor <;> simp_all

theorem rest_setReg8 (s : State) (rd : R8) (v : Byte) : Rest s (s.setReg8 rd v) := by constructor <;> simp
theorem rest_setReg16 (s : State) (rd : R16) (v : Word) : Rest s (s.setReg16 rd v) := by constructor <;> simp
theorem rest_setReg32 (s : State) (rd : ER) (v : Long) : Rest s (s.setReg32 rd v) := by constructor <;> simp

/-- CCR and PC replaced. -/
def State.withCcrPc (s : State) (c : Byte) (p : Addr) : State := { s with ccr := c, pc := p }

theorem rest_withCcrPc (s : State) (c : Byte) (p : Addr) : Rest s (s.withCcrPc c p) := by constructor <;> rfl

/-- The result of a register instruction is its register, its CCR and its PC. -/
theorem gives8 (s : State) (rd : R8) (v : Byte) (c : Byte) (n : Addr) (flags : State → State → Prop)
    (hf : ∀ t : State, t.ccr = c → flags s t) :
    Gives Wrote8 rd v flags s n ((s.setReg8 rd v).withCcrPc c n) :=
  ⟨wrote8_of rfl, hf _ rfl, rfl, ((rest_setReg8 s rd v).trans (rest_withCcrPc _ _ _)).quiet⟩

theorem gives16 (s : State) (rd : R16) (v : Word) (c : Byte) (n : Addr) (flags : State → State → Prop)
    (hf : ∀ t : State, t.ccr = c → flags s t) :
    Gives Wrote16 rd v flags s n ((s.setReg16 rd v).withCcrPc c n) :=
  ⟨wrote16_of rfl, hf _ rfl, rfl, ((rest_setReg16 s rd v).trans (rest_withCcrPc _ _ _)).quiet⟩

theorem gives32 (s : State) (rd : ER) (v : Long) (c : Byte) (n : Addr) (flags : State → State → Prop)
    (hf : ∀ t : State, t.ccr = c → flags s t) :
    Gives Wrote32 rd v flags s n ((s.setReg32 rd v).withCcrPc c n) :=
  ⟨wrote32_of rfl, hf _ rfl, rfl, ((rest_setReg32 s rd v).trans (rest_withCcrPc _ _ _)).quiet⟩

/-! ### Moves and logic -/

theorem moveB_effect (rd : R8) (v : Byte) (k : Nat) (s : State) :
    ∃ t, moveB rd v k s = .next t ∧ Moves Wrote8 rd v s (s.next k) t :=
  ⟨_, by cases rd <;> rfl, gives8 s rd v (s.setNZV0 v).ccr _ _ fun _ h => transferFlags_of h⟩

theorem moveW_effect (rd : R16) (v : Word) (k : Nat) (s : State) :
    ∃ t, moveW rd v k s = .next t ∧ Moves Wrote16 rd v s (s.next k) t :=
  ⟨_, by cases rd <;> rfl, gives16 s rd v (s.setNZV0 v).ccr _ _ fun _ h => transferFlags_of h⟩

theorem moveL_effect (rd : ER) (v : Long) (k : Nat) (s : State) :
    ∃ t, moveL rd v k s = .next t ∧ Moves Wrote32 rd v s (s.next k) t :=
  ⟨_, rfl, gives32 s rd v (s.setNZV0 v).ccr _ _ fun _ h => transferFlags_of h⟩

theorem logicB_effect (rd : R8) (v : Byte) (k : Nat) (s : State) :
    ∃ t, logicB rd v k s = .next t ∧ Moves Wrote8 rd v s (s.next k) t := moveB_effect rd v k s

theorem logicW_effect (rd : R16) (v : Word) (k : Nat) (s : State) :
    ∃ t, logicW rd v k s = .next t ∧ Moves Wrote16 rd v s (s.next k) t := moveW_effect rd v k s

theorem logicL_effect (rd : ER) (v : Long) (k : Nat) (s : State) :
    ∃ t, logicL rd v k s = .next t ∧ Moves Wrote32 rd v s (s.next k) t := moveL_effect rd v k s

/-! ### Addition and subtraction -/

theorem addB_effect (rd : R8) (b : Byte) (k : Nat) (s : State) :
    ∃ t, addB rd b k s = .next t ∧ Adds Wrote8 rd (s.reg8 rd) b false isZero s (s.next k) t :=
  ⟨_, by cases rd <;> rfl, gives8 s rd _ (s.setAddFlags (s.reg8 rd) b false).ccr _ _
    fun _ h => addFlags_of (by decide) h⟩

theorem addW_effect (rd : R16) (b : Word) (k : Nat) (s : State) :
    ∃ t, addW rd b k s = .next t ∧ Adds Wrote16 rd (s.reg16 rd) b false isZero s (s.next k) t :=
  ⟨_, by cases rd <;> rfl, gives16 s rd _ (s.setAddFlags (s.reg16 rd) b false).ccr _ _
    fun _ h => addFlags_of (by decide) h⟩

theorem addL_effect (rd : ER) (b : Long) (k : Nat) (s : State) :
    ∃ t, addL rd b k s = .next t ∧ Adds Wrote32 rd (s.reg32 rd) b false isZero s (s.next k) t :=
  ⟨_, rfl, gives32 s rd _ (s.setAddFlags (s.reg32 rd) b false).ccr _ _
    fun _ h => addFlags_of (by decide) h⟩

theorem subB_effect (rd : R8) (b : Byte) (k : Nat) (s : State) :
    ∃ t, subB rd b k s = .next t ∧ Subtracts Wrote8 rd (s.reg8 rd) b false isZero s (s.next k) t :=
  ⟨_, by cases rd <;> rfl, gives8 s rd _ (s.setSubFlags (s.reg8 rd) b false).ccr _ _
    fun _ h => subFlags_of (by decide) h⟩

theorem subW_effect (rd : R16) (b : Word) (k : Nat) (s : State) :
    ∃ t, subW rd b k s = .next t ∧ Subtracts Wrote16 rd (s.reg16 rd) b false isZero s (s.next k) t :=
  ⟨_, by cases rd <;> rfl, gives16 s rd _ (s.setSubFlags (s.reg16 rd) b false).ccr _ _
    fun _ h => subFlags_of (by decide) h⟩

theorem subL_effect (rd : ER) (b : Long) (k : Nat) (s : State) :
    ∃ t, subL rd b k s = .next t ∧ Subtracts Wrote32 rd (s.reg32 rd) b false isZero s (s.next k) t :=
  ⟨_, rfl, gives32 s rd _ (s.setSubFlags (s.reg32 rd) b false).ccr _ _
    fun _ h => subFlags_of (by decide) h⟩

/-! ### One cycle of memory -/

/-- What a read cycle leaves behind. -/
theorem recordRead_seen (s : State) (p : Addr) (c : BusCycle) : RecordRead p c s (s.seen p c) := by
  unfold RecordRead State.seen
  cases s.kindAt p with
  | none => exact ⟨rfl, rfl⟩
  | some k => cases k <;> exact ⟨rfl, rfl⟩

/-- What a read cycle leaves behind is decided by the parameters, the transcript and the draws alone. -/
theorem recordRead_congr {s u t v : State} {p : Addr} {c : BusCycle} (h : RecordRead p c s t)
    (hp : u.par = s.par) (hb : u.bus = s.bus) (hd : u.draws = s.draws) (hb' : v.bus = t.bus)
    (hd' : v.draws = t.draws) : RecordRead p c u v := by
  unfold RecordRead SameRecord at *
  rw [State.kindAt_congr hp]
  split at h <;> simp_all

/-- A byte store. -/
theorem storedB_storeB (s : State) (a : Addr) (v : Byte) : StoredB (s.red a) v s (s.storeB a v) := by
  unfold StoredB
  cases hk : s.kindAt (s.red a) with
  | none => exact ⟨s.storeB_get_same hk v, fun b hb => s.storeB_get_ne hb v, by simp [State.storeB, State.written, hk]⟩
  | some k => cases k <;> refine ⟨fun b => ?_, ?_⟩ <;> simp [State.storeB, State.written, hk]

/-- The two bytes of a word stand at different addresses. -/
theorem State.wordAddr_succ_ne (s : State) (a : Addr) : (s.red (s.wordAddr a + 1#24)).toNat ≠ (s.wordAddr a).toNat := by
  intro h
  have h2 := congrArg (·.getLsbD 0) (BitVec.eq_of_toNat_eq h)
  revert h2
  unfold State.wordAddr State.red even
  split <;> simp [BitVec.getElem_add]

/-- A word store of two bytes. -/
theorem storedW_storeBytes (s : State) (a : Addr) (x y : StoredByte) :
    StoredW (s.wordAddr a) (some x.byte) (some y.byte) s (s.storeBytes a x y) := by
  unfold StoredW
  cases hk : s.kindAt (s.wordAddr a) with
  | none =>
    have hne := s.wordAddr_succ_ne a
    simp only [State.storeBytes, State.written, hk, Memory.get_put]
    refine ⟨fun v hv => ?_, fun v hv => ?_, fun b h0 h1 => ?_, trivial⟩
    · cases hv; simp [hne.symm]
    · cases hv; simp
    · rw [if_neg h1, if_neg h0]
  | some k =>
    cases k
    · exact ⟨fun b => by simp [State.storeBytes, State.written, hk], by simp [State.storeBytes, State.written, hk]⟩
    · refine ⟨fun b => by simp [State.storeBytes, State.written, hk], x.byte ++ y.byte,
        by simp [State.storeBytes, State.written, hk], fun v hv => ?_, fun v hv => ?_⟩
      · cases hv; exact BitVec.extractLsb'_append_eq_left
      · cases hv; exact BitVec.extractLsb'_append_eq_right

/-- A word store. -/
theorem storedW_storeW (s : State) (a : Addr) (v : Word) :
    StoredW (s.wordAddr a) (upper v) (lower v) s (s.storeW a v) :=
  storedW_storeBytes s a (.value _) (.value _)

/-- A word store is decided by the parameters, memory and the transcript alone. -/
theorem storedW_congr {s t s' t' : State} {e : Addr} {h l : Option Byte} (k : StoredW e h l s t)
    (hp : s'.par = s.par) (hm : s'.mem = s.mem) (hb : s'.bus = s.bus) (hm' : t'.mem = t.mem) (hb' : t'.bus = t.bus) :
    StoredW e h l s' t' := by
  unfold StoredW SameMemory at *
  rw [State.kindAt_congr hp, State.red_congr hp]
  split at k <;> simp_all

theorem storedB_congr {s t s' t' : State} {e : Addr} {v : Byte} (k : StoredB e v s t)
    (hp : s'.par = s.par) (hm : s'.mem = s.mem) (hb : s'.bus = s.bus) (hm' : t'.mem = t.mem) (hb' : t'.bus = t.bus) :
    StoredB e v s' t' := by
  unfold StoredB SameMemory at *
  rw [State.kindAt_congr hp]
  split at k <;> simp_all

/-- The bytes that are given may be forgotten. -/
theorem StoredW.forget_lower {s t : State} {e : Addr} {h l : Option Byte} (k : StoredW e h l s t) :
    StoredW e h none s t := by
  unfold StoredW at *
  split at k
  · exact ⟨k.1, by simp, k.2.2⟩
  · exact k
  · obtain ⟨a, w, b, c, d⟩ := k
    exact ⟨a, w, b, c, by simp⟩

theorem StoredW.forget_upper {s t : State} {e : Addr} {h l : Option Byte} (k : StoredW e h l s t) :
    StoredW e none l s t := by
  unfold StoredW at *
  split at k
  · exact ⟨by simp, k.2⟩
  · exact k
  · obtain ⟨a, w, b, c, d⟩ := k
    exact ⟨a, w, b, by simp, d⟩

/-- A longword store. -/
theorem storedL_storeL (s : State) (a : Addr) (v : Long) : StoredL a v s (s.storeL a v) := by
  refine ⟨s.storeW a (v.extractLsb' 16 16), by simp, storedW_storeW s a _, ?_⟩
  have h := storedW_storeW (s.storeW a (v.extractLsb' 16 16)) (s.wordAddr a + 2#24) (v.extractLsb' 0 16)
  simpa [State.storeL] using h

end Sys2Proof.Machine
end

