-- ==== Sys2Proof/Laws/EffectsArithmetic.lean ====
section
/-! SUPPORT. What counting, shifting and division do, said once in the words of Safety. -/

namespace Sys2Proof.Machine

/-! ### Flags -/

/-- N and Z from a result, V as given, the other bits kept. -/
theorem countFlags_of {w : Nat} {s t : State} {r : BitVec w} {x : Bool}
    (h : t.ccr = ((s.setNZ r).setFlag .v x).ccr) :
    t.flag .n = r.msb ∧ t.flag .z = isZero r ∧ t.flag .v = x ∧ SameFlagsBut [.n, .z, .v] s t := by
  have hz : ∀ g, t.flag g = ((s.setNZ r).setFlag .v x).flag g := fun g => State.flag_congr h g
  refine ⟨?_, ?_, ?_, fun g hg => ?_⟩ <;> rw [hz, State.flag_setFlag, State.flag_setNZ] <;>
    simp_all [isZero, beq_eq_decide]

/-- N and Z from a product. -/
theorem productFlags_of {w : Nat} {s t : State} {r : BitVec w} (h : t.ccr = (s.setNZ r).ccr) :
    NZFlags r.msb (isZero r) s t := by
  refine ⟨?_, ?_, fun g hg => ?_⟩ <;> rw [State.flag_congr h, State.flag_setNZ] <;>
    simp_all [isZero, beq_eq_decide]

/-- N and Z of a division. -/
theorem divFlags_of {s t : State} {n z : Bool} (h : t.ccr = (s.setDivFlags n z).ccr) : NZFlags n z s t := by
  refine ⟨?_, ?_, fun g hg => ?_⟩ <;> rw [State.flag_congr h, State.flag_setDivFlags] <;> simp_all

/-- The flags of a shift. -/
theorem shiftFlags_of {w : Nat} {s t : State} {x : Shifted w} (h : t.ccr = (s.setShiftFlags x).ccr) :
    (t.flag .n = x.result.msb ∧ t.flag .z = isZero x.result ∧ SameFlagsBut [.n, .z, .v, .c] s t) ∧
      t.flag .c = x.carry ∧ t.flag .v = x.overflow := by
  refine ⟨⟨?_, ?_, fun g hg => ?_⟩, ?_, ?_⟩ <;> rw [State.flag_congr h, State.flag_setShiftFlags] <;>
    simp_all [isZero, beq_eq_decide]

/-! ### Shifts -/

theorem shiftB_effect (rd : R8) (x : Shifted 8) (s : State) :
    ∃ t, shiftB rd x s = .next t ∧
      Shifts Wrote8 rd (fun r c v => r = x.result ∧ c = x.carry ∧ v = x.overflow) s (s.next 2) t := by
  refine ⟨_, by cases rd <;> rfl, x.result, ⟨rfl, ?_, ?_⟩,
    gives8 s rd x.result (s.setShiftFlags x).ccr _ _ fun _ h => (shiftFlags_of h).1⟩
  · exact (shiftFlags_of (s := s) (x := x) rfl).2.1
  · exact (shiftFlags_of (s := s) (x := x) rfl).2.2

theorem shiftW_effect (rd : R16) (x : Shifted 16) (s : State) :
    ∃ t, shiftW rd x s = .next t ∧
      Shifts Wrote16 rd (fun r c v => r = x.result ∧ c = x.carry ∧ v = x.overflow) s (s.next 2) t := by
  refine ⟨_, by cases rd <;> rfl, x.result, ⟨rfl, ?_, ?_⟩,
    gives16 s rd x.result (s.setShiftFlags x).ccr _ _ fun _ h => (shiftFlags_of h).1⟩
  · exact (shiftFlags_of (s := s) (x := x) rfl).2.1
  · exact (shiftFlags_of (s := s) (x := x) rfl).2.2

theorem shiftL_effect (rd : ER) (x : Shifted 32) (s : State) :
    ∃ t, shiftL rd x s = .next t ∧
      Shifts Wrote32 rd (fun r c v => r = x.result ∧ c = x.carry ∧ v = x.overflow) s (s.next 2) t := by
  refine ⟨_, rfl, x.result, ⟨rfl, ?_, ?_⟩,
    gives32 s rd x.result (s.setShiftFlags x).ccr _ _ fun _ h => (shiftFlags_of h).1⟩
  · exact (shiftFlags_of (s := s) (x := x) rfl).2.1
  · exact (shiftFlags_of (s := s) (x := x) rfl).2.2

/-! ### Division -/

/-- Where an unsigned quotient fits, the result is remainder and quotient. -/
theorem divideUnsigned_of {w : Nat} (n : BitVec (w + w)) (d : BitVec w) (h0 : d.toNat ≠ 0)
    (h1 : n.toNat / d.toNat < 2 ^ w) : ∃ r q, DividesUnsigned n d r q ∧ divideUnsigned n d = some (r ++ q) := by
  refine ⟨BitVec.ofNat w (n.toNat % d.toNat), BitVec.ofNat w (n.toNat / d.toNat), ?_,
    by simp [divideUnsigned, h0, h1]⟩
  have hd := d.isLt
  have hr : n.toNat % d.toNat < d.toNat := Nat.mod_lt _ (by omega)
  simp only [DividesUnsigned, BitVec.toNat_ofNat]
  rw [Nat.mod_eq_of_lt h1, Nat.mod_eq_of_lt (by omega)]
  exact ⟨by rw [Nat.mul_comm]; exact Nat.div_add_mod _ _, hr⟩

/-- Where a signed quotient fits, the result is remainder and quotient. -/
theorem divideSigned_of {w : Nat} (hw : 0 < w) (n : BitVec (w + w)) (d : BitVec w) (h0 : d.toInt ≠ 0)
    (h1 : -2 ^ (w - 1) ≤ n.toInt.tdiv d.toInt) (h2 : n.toInt.tdiv d.toInt < 2 ^ (w - 1)) :
    ∃ r q, DividesSigned n d r q ∧ divideSigned n d = some (r ++ q) := by
  refine ⟨BitVec.ofInt w (n.toInt.tmod d.toInt), BitVec.ofInt w (n.toInt.tdiv d.toInt), ?_,
    by simp [divideSigned, h0, h1, h2]⟩
  have hp : (2 : Int) ^ w = 2 * 2 ^ (w - 1) := by exact_mod_cast two_pow_split hw
  have hd1 : -2 ^ (w - 1) ≤ d.toInt := BitVec.le_toInt d
  have hd2 : d.toInt < 2 ^ (w - 1) := BitVec.toInt_lt
  have hr : (n.toInt.tmod d.toInt).natAbs < d.toInt.natAbs := by
    rw [Int.natAbs_tmod]; exact Nat.mod_lt _ (by omega)
  have fits : ∀ x : Int, -2 ^ (w - 1) ≤ x → x < 2 ^ (w - 1) → (BitVec.ofInt w x).toInt = x := fun x a b => by
    rw [BitVec.toInt_ofInt]; exact Int.bmod_eq_of_le (by push_cast; omega) (by push_cast; omega)
  have tr := fits (n.toInt.tmod d.toInt) (by omega) (by omega)
  simp only [DividesSigned]
  rw [fits _ h1 h2, tr]
  refine ⟨?_, hr, ?_⟩
  · rw [Int.mul_comm]; exact Int.mul_tdiv_add_tmod _ _
  · by_cases hz : n.toInt.tmod d.toInt = 0
    · left; rw [hz]; simp
    · right
      rw [BitVec.msb_eq_toInt, BitVec.msb_eq_toInt, tr, decide_eq_decide]
      have := Int.tmod_nonneg (a := n.toInt) d.toInt
      constructor
      · intro h; by_contra hc; have := this (by omega); omega
      · intro h
        have h3 := Int.tmod_nonneg (a := -n.toInt) d.toInt (by omega)
        rw [Int.neg_tmod] at h3; omega

end Sys2Proof.Machine
end

