-- ==== Sys2Proof/Laws/EffectsMemory.lean ====
section
/-! SUPPORT. What the shared operations over memory, branches and exceptions do, said once in the words of
Safety. -/

namespace Sys2Proof.Machine

/-! ### Changing the state an effect starts from -/

theorem wrote8_congr {s u t t' : State} {rd : R8} {v : Byte} (h : Wrote8 rd v u t) (hs : s.regs = u.regs)
    (ht : t'.regs = t.regs) : Wrote8 rd v s t' := by
  obtain ⟨a, b, c⟩ := h
  refine ⟨?_, fun r hr => ?_, fun n => ?_⟩
  · rw [State.reg8_congr ht, a]
  · rw [State.reg8_congr ht, b r hr, State.reg8_congr hs]
  · rw [State.reg16_congr ht, c n, State.reg16_congr hs]

theorem wrote16_congr {s u t t' : State} {rd : R16} {v : Word} (h : Wrote16 rd v u t) (hs : s.regs = u.regs)
    (ht : t'.regs = t.regs) : Wrote16 rd v s t' := by
  obtain ⟨a, b⟩ := h
  refine ⟨?_, fun r hr => ?_⟩
  · rw [State.reg16_congr ht, a]
  · rw [State.reg16_congr ht, b r hr, State.reg16_congr hs]

theorem wrote32_congr {s u t t' : State} {rd : ER} {v : Long} (h : Wrote32 rd v u t) (hs : s.regs = u.regs)
    (ht : t'.regs = t.regs) : Wrote32 rd v s t' := by
  obtain ⟨a, b⟩ := h
  refine ⟨?_, fun r hr => ?_⟩
  · rw [State.reg32_congr ht, a]
  · rw [State.reg32_congr ht, b r hr, State.reg32_congr hs]

theorem SameControl.trans {s t u : State} (h : SameControl s t) (k : SameControl t u) : SameControl s u := by
  unfold SameControl at *; simp_all

theorem sameControl_of {s t : State} (h1 : t.pstate = s.pstate) (h2 : t.irqInhibit = s.irqInhibit)
    (h3 : t.prefetch = s.prefetch) (h4 : t.par = s.par) (h5 : t.ssby = s.ssby) (h6 : t.host = s.host) :
    SameControl s t := ⟨h1, h2, h3, h4, h5, h6⟩

/-! ### Loads -/

theorem seeB_record (s : State) (a : Addr) : RecordRead (s.red a) (.readByte (s.red a)) s (s.seeB a) :=
  recordRead_seen s _ _

theorem seeW_record (s : State) (a : Addr) : RecordRead (s.wordAddr a) (.readWord (s.wordAddr a)) s (s.seeW a) :=
  recordRead_seen s _ _

theorem loadMovB_effect (m : MemOperand) (rd : R8) (k : Nat) (s : State) :
    ∃ t, loadMovB m rd k s = .next t ∧ LoadsB m rd s (s.next k) t := by
  obtain ⟨t, e, w, f, p, qm, qc, qr⟩ := moveB_effect rd (s.loadB (m.ea 1 s)) k (m.step 1 (s.seeB (m.ea 1 s)))
  refine ⟨t, e, wrote8_congr w ?_ rfl, ?_, by simpa using p, fun a => by simpa using qm a,
    (sameControl_of (by simp) (by simp) (by simp) (by simp) (by simp) (by simp)).trans qc,
    recordRead_congr (seeB_record s (m.ea 1 s)) rfl rfl rfl (by simpa using qr.1) (by simpa using qr.2)⟩
  · cases m <;> simp [MemOperand.step]
  · obtain ⟨a, b, c, d⟩ := f
    exact ⟨a, b, c, fun g hg => by simpa using d g hg⟩

theorem loadMovW_effect (m : MemOperand) (rd : R16) (k : Nat) (s : State) :
    ∃ t, loadMovW m rd k s = .next t ∧ LoadsW m rd s (s.next k) t := by
  obtain ⟨t, e, w, f, p, qm, qc, qr⟩ := moveW_effect rd (s.loadW (m.ea 2 s)) k (m.step 2 (s.seeW (m.ea 2 s)))
  refine ⟨t, e, wrote16_congr w ?_ rfl, ?_, by simpa using p, fun a => by simpa using qm a,
    (sameControl_of (by simp) (by simp) (by simp) (by simp) (by simp) (by simp)).trans qc,
    recordRead_congr (seeW_record s (m.ea 2 s)) rfl rfl rfl (by simpa using qr.1) (by simpa using qr.2)⟩
  · cases m <;> simp [MemOperand.step]
  · obtain ⟨a, b, c, d⟩ := f
    exact ⟨a, b, c, fun g hg => by simpa using d g hg⟩

theorem loadMovL_effect (m : MemOperand) (rd : ER) (k : Nat) (s : State) :
    ∃ t, loadMovL m rd k s = .next t ∧ LoadsL m rd s (s.next k) t := by
  obtain ⟨t, e, w, f, p, qm, qc, qr⟩ := moveL_effect rd (s.loadL (m.ea 4 s)) k (m.step 4 (s.seeL (m.ea 4 s)))
  refine ⟨t, e, wrote32_congr w ?_ rfl, ?_, by simpa using p, fun a => by simpa using qm a,
    (sameControl_of (by simp) (by simp) (by simp) (by simp) (by simp) (by simp)).trans qc,
    s.seeW (m.ea 4 s), by simp, seeW_record s _, ?_⟩
  · cases m <;> simp [MemOperand.step]
  · obtain ⟨a, b, c, d⟩ := f
    exact ⟨a, b, c, fun g hg => by simpa using d g hg⟩
  · have h := seeW_record (s.seeW (m.ea 4 s)) (s.wordAddr (m.ea 4 s) + 2#24)
    rw [State.wordAddr_seeW] at h
    exact recordRead_congr h rfl rfl rfl (by simpa [State.seeL] using qr.1) (by simpa [State.seeL] using qr.2)

/-! ### Stores -/

theorem storeMovB_effect (m : MemOperand) (rs : R8) (k : Nat) (s : State) :
    ∃ t, storeMovB m rs k s = .next t ∧ StoresB m rs s (s.next k) t := by
  refine ⟨_, rfl, ?_, by simp, sameRegs_of (by simp), transferFlags_of ?_, by simp, sameControl_of (by simp)
    (by simp) (by simp) (by simp) (by simp) (by simp)⟩
  · have h := storedB_storeB (m.step 1 s) (m.ea 1 s) ((m.step 1 s).reg8 rs)
    rw [MemOperand.red_step] at h
    exact storedB_congr h (by simp) (by simp) (by simp) (by simp) (by simp)
  · simp [State.setNZV0, State.setNZ, State.setFlag]

theorem storeMovW_effect (m : MemOperand) (rs : R16) (k : Nat) (s : State) :
    ∃ t, storeMovW m rs k s = .next t ∧ StoresW m rs s (s.next k) t := by
  refine ⟨_, rfl, ?_, by simp, sameRegs_of (by simp), transferFlags_of ?_, by simp, sameControl_of (by simp)
    (by simp) (by simp) (by simp) (by simp) (by simp)⟩
  · have h := storedW_storeW (m.step 2 s) (m.ea 2 s) ((m.step 2 s).reg16 rs)
    rw [MemOperand.wordAddr_step] at h
    exact storedW_congr h (by simp) (by simp) (by simp) (by simp) (by simp)
  · simp [State.setNZV0, State.setNZ, State.setFlag]

theorem storedWW_congr {s t s' t' : State} {e1 e2 : Addr} {h1 l1 h2 l2 : Option Byte}
    (k : StoredWW e1 h1 l1 e2 h2 l2 s t) (hp : s'.par = s.par) (hm : s'.mem = s.mem) (hb : s'.bus = s.bus)
    (hm' : t'.mem = t.mem) (hb' : t'.bus = t.bus) : StoredWW e1 h1 l1 e2 h2 l2 s' t' := by
  obtain ⟨u, up, a, b⟩ := k
  exact ⟨u, up.trans hp.symm, storedW_congr a hp hm hb rfl rfl, storedW_congr b rfl rfl rfl hm' hb'⟩

theorem storeMovL_effect (m : MemOperand) (rs : ER) (k : Nat) (s : State) :
    ∃ t, storeMovL m rs k s = .next t ∧ StoresL m rs s (s.next k) t := by
  refine ⟨_, rfl, ?_, by simp, sameRegs_of (by simp), transferFlags_of ?_, by simp, sameControl_of (by simp)
    (by simp) (by simp) (by simp) (by simp) (by simp)⟩
  · have h := storedL_storeL (m.step 4 s) (m.ea 4 s) ((m.step 4 s).reg32 rs)
    unfold StoredL at h ⊢
    rw [MemOperand.wordAddr_step, MemOperand.wordAddr_step] at h
    exact storedWW_congr h (by simp) (by simp) (by simp) (by simp) (by simp)
  · simp [State.setNZV0, State.setNZ, State.setFlag]

/-! ### Bit instructions -/

theorem changeReg_effect (rd : R8) (f : Byte → Byte) (s : State) :
    ∃ t, changeReg rd f s = .next t ∧ Gives Wrote8 rd (f (s.reg8 rd)) SameCcr s (s.next 2) t :=
  ⟨_, by cases rd <;> rfl, gives8 s rd (f (s.reg8 rd)) s.ccr _ _ fun _ h => h⟩

theorem changeMem_effect (m : MemOperand) (f : Byte → Byte) (s : State) :
    ∃ t, changeMem m f s = .next t ∧ ChangesByte m f s (s.next 4) t := by
  let r := s.seeB (m.ea 1 s)
  refine ⟨_, rfl, r, r.readAhead (s.next 4), by simp [r], by simp [r], fun a => by simp [r], fun a => by simp [r],
    seeB_record s _, ?_, ?_, by simp [r], sameRegs_of (by simp), by simp, by simp,
    sameControl_of (by simp) (by simp) (by simp [r]) (by simp) (by simp) (by simp)⟩
  · have h := seeW_record r (s.next 4)
    rw [State.wordAddr_seeB] at h
    exact recordRead_congr h rfl rfl rfl rfl rfl
  · have h := storedB_storeB (r.readAhead (s.next 4)) (m.ea 1 s) (f (s.loadB (m.ea 1 s)))
    rw [State.red_readAhead, State.red_seeB] at h
    exact storedB_congr h rfl rfl rfl (by simp [r]) (by simp [r])

theorem testReg_effect (rd : R8) (g : Flag) (f : Byte → Bool) (s : State) :
    ∃ t, testReg rd g f s = .next t ∧ SetsFlag g (f (s.reg8 rd)) s (s.next 2) t := by
  refine ⟨_, rfl, by simp [State.flag_setFlag], fun k hk => ?_, sameRegs_of (by simp), by simp,
    Rest.quiet (by constructor <;> simp)⟩
  simp only [List.mem_singleton] at hk
  simp [State.flag_setFlag, hk]

theorem testMem_effect (m : MemOperand) (g : Flag) (f : Byte → Bool) (s : State) :
    ∃ t, testMem m g f s = .next t ∧ SetsFlagFrom m g f s (s.next 4) t := by
  refine ⟨_, rfl, by simp [State.flag_setFlag], fun k hk => ?_, sameRegs_of (by simp), by simp,
    fun a => by simp, sameControl_of (by simp) (by simp) (by simp) (by simp) (by simp) (by simp),
    recordRead_congr (seeB_record s _) rfl rfl rfl (by simp) (by simp)⟩
  simp only [List.mem_singleton] at hk
  simp [State.flag_setFlag, hk]

/-! ### Branches -/

theorem jump_effect (target : Addr) (s : State) (n : Addr) : GoesTo target s n (s.jump target) :=
  ⟨rfl, sameRegs_of rfl, rfl, Rest.quiet (by constructor <;> rfl)⟩

theorem branch_effect (c : Cond) (d : Addr) (s : State) :
    ∃ t, branch c d s = .next t ∧ Branches (c.holds s) d s (s.next 4) t := by
  unfold branch
  refine ⟨_, rfl, ?_⟩
  unfold Branches
  split
  · exact jump_effect _ s _
  · refine ⟨?_, sameRegs_of rfl, rfl, Rest.quiet (by constructor <;> rfl)⟩
    show s.next 4 = s.pcForm (s.next 4)
    exact (s.pcForm_pcForm _).symm

theorem branchShort_effect (c : Cond) (d : Addr) (s : State) :
    ∃ t, branchShort c d s = .next t ∧ BranchesShort (c.holds s) d s (s.next 2) t := by
  unfold branchShort
  refine ⟨_, rfl, ?_⟩
  have h := seeW_record s (s.next 2 + d)
  unfold BranchesShort
  cases c.holds s with
  | true =>
    exact ⟨by simp, sameRegs_of (by simp), by simp, fun a => by simp, recordRead_congr h rfl rfl rfl (by simp)
      (by simp), sameControl_of (by simp) (by simp) (by simp) (by simp) (by simp) (by simp)⟩
  | false =>
    refine ⟨?_, sameRegs_of (by simp), by simp, fun a => by simp, recordRead_congr h rfl rfl rfl (by simp)
      (by simp), sameControl_of (by simp) (by simp) (by simp) (by simp) (by simp) (by simp)⟩
    show State.next { s.readAhead (s.next 2 + d) with prefetch := s.prefetch } 2 = s.pcForm (s.next 2)
    rw [State.next_congr (s := s) (by simp) (by simp)]
    exact (s.pcForm_pcForm _).symm

theorem call_effect (target n : Addr) (s u : State) (hr : u.regs = s.regs) (hc : u.ccr = s.ccr)
    (hk : SameControl { s with prefetch := u.prefetch } u) : Calls target u s n ((u.pushReturn n).jump target) := by
  have hp : u.par = s.par := hk.2.2.2.1
  have h32 : ∀ m, u.reg32 m = s.reg32 m := fun m => State.reg32_congr hr m
  refine ⟨?_, ?_, ?_, ?_⟩
  · cases hm : s.par.mode with
    | normal =>
      have e : u.pushReturn n = (u.setReg32 .er7 (s.reg32 .er7 - 2#32)).storeW (low24 (s.reg32 .er7 - 2#32))
          (n.extractLsb' 0 16) := by
        simp [State.pushReturn, hp, hm, h32]
      refine ⟨wrote32_of (by simp [e, hr]), by simp [e], ?_⟩
      have h := storedW_storeW (u.setReg32 .er7 (s.reg32 .er7 - 2#32)) (low24 (s.reg32 .er7 - 2#32))
        (n.extractLsb' 0 16)
      rw [State.wordAddr_setReg32, State.wordAddr_congr hp] at h
      have e1 : upper (n.extractLsb' 0 16) = some (n.extractLsb' 8 8) := by
        simp [upper, BitVec.extractLsb'_extractLsb'_of_le]
      have e2 : lower (n.extractLsb' 0 16) = some (n.extractLsb' 0 8) := by
        simp [lower, BitVec.extractLsb'_extractLsb'_of_le]
      rw [e1, e2] at h
      exact storedW_congr h (by simp) (by simp) (by simp) (by simp [e]) (by simp [e])
    | advanced =>
      let u1 := u.setReg32 .er7 (s.reg32 .er7 - 4#32)
      let a := low24 (s.reg32 .er7 - 4#32)
      let free : StoredByte := .free ⟨.reservedByte n, u.draws⟩
      let u2 := u1.storeBytes a free (.value (n.extractLsb' 16 8))
      have e : u.pushReturn n = (u2.storeW (u2.wordAddr a + 2#24) (n.extractLsb' 0 16)).drawn := by
        simp [State.pushReturn, hp, hm, h32, u1, u2, a, free]
      refine ⟨wrote32_of (by simp [e, hr, u1, u2]), by simp [e, u1, u2, State.drawn], u2, by simp [u1, u2], ?_, ?_⟩
      · have h := (storedW_storeBytes u1 a free (.value (n.extractLsb' 16 8))).forget_upper
        rw [State.wordAddr_setReg32, State.wordAddr_congr hp] at h
        exact storedW_congr h (by simp [u1]) (by simp [u1]) (by simp [u1]) rfl rfl
      · have h := storedW_storeW u2 (u2.wordAddr a + 2#24) (n.extractLsb' 0 16)
        have hw : ∀ x, u2.wordAddr x = s.wordAddr x := fun x => State.wordAddr_congr (by simp [u1, u2, hp]) x
        rw [hw, hw] at h
        have e1 : upper (n.extractLsb' 0 16) = some (n.extractLsb' 8 8) := by
          simp [upper, BitVec.extractLsb'_extractLsb'_of_le]
        have e2 : lower (n.extractLsb' 0 16) = some (n.extractLsb' 0 8) := by
          simp [lower, BitVec.extractLsb'_extractLsb'_of_le]
        rw [e1, e2] at h
        rw [← hw a] at h ⊢
        exact storedW_congr h rfl rfl rfl (by simp [e]) (by simp [e])
  · simp [State.pcForm_congr hp]
  · simp [hc]
  · exact hk.trans (sameControl_of (by simp) (by simp) (by simp) (by simp) (by simp) (by simp))

theorem callDirect_effect (target : Addr) (k : Nat) (s : State) :
    ∃ t, call target k s = .next t ∧ Calls target (s.readTarget target) s (s.next k) t :=
  ⟨_, rfl, call_effect target (s.next k) s (s.readTarget target) (by simp) (by simp)
    (sameControl_of (by simp) (by simp) (by simp) (by simp) (by simp) (by simp))⟩

theorem callThrough_effect (pointer : Addr) (k : Nat) (s : State) :
    ∃ t, callThrough pointer k s = .next t ∧
      Calls (s.loadPointer pointer) (s.seePointer pointer) s (s.next k) t :=
  ⟨_, rfl, call_effect (s.loadPointer pointer) (s.next k) s (s.seePointer pointer) (by simp) (by simp)
    (sameControl_of (by simp) (by simp) (by simp) (by simp) (by simp) (by simp))⟩

/-! ### System control -/

theorem writeCcr_effect (v : Byte) (k : Nat) (s : State) :
    ∃ t, writeCcr v k s = .next t ∧ WritesCcr v s s (s.next k) t ∧ SameRecord s t :=
  ⟨_, rfl, ⟨rfl, rfl, sameRegs_of rfl, rfl, sameMemory_of rfl, rfl, rfl, rfl, rfl, rfl⟩, rfl, rfl⟩

theorem loadCcr_effect (m : MemOperand) (k : Nat) (s : State) :
    ∃ t, loadCcr m k s = .next t ∧ LoadsCcr m s (s.next k) t := by
  refine ⟨_, rfl, ⟨rfl, rfl, sameRegs_of ?_, by simp, sameMemory_of (by simp), by simp, by simp, by simp, by simp,
    by simp⟩, recordRead_congr (seeW_record s (m.ea 2 s)) rfl rfl rfl (by simp) (by simp)⟩
  cases m <;> simp [MemOperand.step]

theorem storeCcr_effect (m : MemOperand) (k : Nat) (s : State) :
    ∃ t, storeCcr m k s = .next t ∧ StoresCcr m s (s.next k) t := by
  refine ⟨_, rfl, ?_, by simp [State.drawn], sameRegs_of (by simp), by simp, by simp,
    sameControl_of (by simp) (by simp) (by simp) (by simp) (by simp) (by simp)⟩
  have h := (storedW_storeBytes (m.step 2 s) (m.ea 2 s) (.value s.ccr)
    (.free ⟨.stcOddByte s.ccr, s.draws⟩)).forget_lower
  rw [MemOperand.wordAddr_step] at h
  exact storedW_congr h (by simp) (by simp) (by simp) (by simp) (by simp)

/-! ### Exceptions -/

theorem low24_add (v : Long) (k : Nat) : low24 (v + BitVec.ofNat 32 k) = low24 v + BitVec.ofNat 24 k := by
  simp only [low24, BitVec.setWidth_add _ _ (show 24 ≤ 32 by decide)]
  congr 1
  exact BitVec.setWidth_ofNat_of_le (by decide) _

theorem pushFrame_effect (ret : Addr) (s : State) : PushedFrame ret s (s.pushFrame ret) := by
  let u1 := s.setReg32 .er7 (s.reg32 .er7 - 4#32)
  let u2 := u1.storeW (low24 (s.reg32 .er7 - 4#32 + 2#32)) (ret.extractLsb' 0 16)
  have hw : ∀ x, u2.wordAddr x = s.wordAddr x := fun x => State.wordAddr_congr (by simp [u1, u2]) x
  refine ⟨u2, by simp [u1, u2], ?_, ?_⟩
  · have h := storedW_storeW u1 (low24 (s.reg32 .er7 - 4#32 + 2#32)) (ret.extractLsb' 0 16)
    rw [State.wordAddr_setReg32] at h
    have e1 : upper (ret.extractLsb' 0 16) = some (ret.extractLsb' 8 8) := by
      simp [upper, BitVec.extractLsb'_extractLsb'_of_le]
    have e2 : lower (ret.extractLsb' 0 16) = some (ret.extractLsb' 0 8) := by
      simp [lower, BitVec.extractLsb'_extractLsb'_of_le]
    rw [e1, e2] at h
    exact storedW_congr h (by simp [u1]) (by simp [u1]) (by simp [u1]) rfl rfl
  · have h := storedW_storeW u2 (low24 (s.reg32 .er7 - 4#32)) (s.ccr ++ s.frameByte ret)
    rw [hw] at h
    have e1 : upper (s.ccr ++ s.frameByte ret) = some s.ccr := by
      simp only [upper]; congr 1; exact BitVec.extractLsb'_append_eq_left
    have e2 : lower (s.ccr ++ s.frameByte ret) = some (s.frameByte ret) := by
      simp only [lower]; congr 1; exact BitVec.extractLsb'_append_eq_right
    rw [e1, e2] at h
    exact h

theorem flag_maskInterrupts (s : State) (g : Flag) :
    s.maskInterrupts.flag g =
      if g = .i then true else if g = .ui then s.par.uiIsMask || s.flag .ui else s.flag g := by
  unfold State.maskInterrupts
  cases h : s.par.uiIsMask <;> cases g <;> simp [State.flag_setFlag]

theorem exceptionEntry_effect (k : Byte) (ret : Addr) (s : State) : Entered k ret s (s.exceptionEntry k ret) := by
  have hl : ∀ (u v : State) (a : Addr), v.mem = u.mem → v.par = u.par → v.draws = u.draws →
      v.loadPointer a = u.loadPointer a := by
    intro u v a h1 h2 h3
    simp only [State.loadPointer, State.loadL, State.loadW, State.kindAt, State.freeValue, State.wordAddr,
      State.red, h1, h2, h3]
  have hs : ∀ (u v : State) (a : Addr), v.bus = u.bus → v.par = u.par → v.draws = u.draws →
      (v.seePointer a).bus = (u.seePointer a).bus ∧ (v.seePointer a).draws = (u.seePointer a).draws := by
    intro u v a h1 h2 h3
    have one : ∀ (u v : State) (p : Addr) (c : BusCycle), v.bus = u.bus → v.par = u.par → v.draws = u.draws →
        (v.seen p c).bus = (u.seen p c).bus ∧ (v.seen p c).draws = (u.seen p c).draws := by
      intro u v p c h1 h2 h3
      simp only [State.seen, State.kindAt, h2]
      split <;> simp_all [State.drawn]
    have w1 := one u v (u.wordAddr a) (.readWord (u.wordAddr a)) h1 h2 h3
    simp only [State.seePointer, h2]
    split
    · simpa [State.seeW, State.wordAddr_congr h2] using w1
    · have w2 := one (u.seeW a) (v.seeW a) (u.wordAddr (u.wordAddr a + 2#24))
        (.readWord (u.wordAddr (u.wordAddr a + 2#24)))
        (by simpa [State.seeW, State.wordAddr_congr h2] using w1.1) (by simp [h2])
        (by simpa [State.seeW, State.wordAddr_congr h2] using w1.2)
      simpa [State.seeL, State.seeW, State.wordAddr_congr h2] using w2
  let u := s.pushFrame ret
  have e : s.exceptionEntry k ret = u.maskInterrupts.enterVector k := rfl
  have hv := hs u u.maskInterrupts (u.vectorAddr k) (by simp) (by simp) (by simp)
  refine ⟨u, by simp [u], by simp [u], pushFrame_effect ret s, fun a => by simp [e], wrote32_of (by simp [e, u, State.pushFrame]),
    ?_, ?_, fun g hg => ?_, ?_, ?_, ?_, rfl, by simp [e, u], rfl, by simp [e, u], by simp [e, u], by simp [e, u]⟩
  · rw [e, State.flag_congr (s := u.maskInterrupts) (by simp), flag_maskInterrupts]; simp
  · rw [e, State.flag_congr (s := u.maskInterrupts) (by simp), flag_maskInterrupts]; simp [u, State.flag]
  · rw [e, State.flag_congr (s := u.maskInterrupts) (by simp), flag_maskInterrupts]
    simp_all [u, State.flag]
  · show ((u.maskInterrupts.seePointer (u.maskInterrupts.vectorAddr k)).pcForm _) = _
    rw [State.pcForm_congr (s := u) (t := u.maskInterrupts.seePointer (u.maskInterrupts.vectorAddr k)) (by simp), hl u u.maskInterrupts _ (by simp) (by simp) (by simp),
      State.vectorAddr_congr (s := u) (t := u.maskInterrupts) (by simp)]
  · show (u.maskInterrupts.seePointer (u.maskInterrupts.vectorAddr k)).bus = _
    rw [State.vectorAddr_congr (s := u) (t := u.maskInterrupts) (by simp)]; exact hv.1
  · show (u.maskInterrupts.seePointer (u.maskInterrupts.vectorAddr k)).draws = _
    rw [State.vectorAddr_congr (s := u) (t := u.maskInterrupts) (by simp)]; exact hv.2

end Sys2Proof.Machine
end

