-- ==== Sys2Proof/Laws/Fetch.lean ====
section
/-! SUPPORT. The instruction fetches of a step: what they leave as it was, the cycles they make, and that
their number is that of Table 2.8. -/

namespace Sys2Proof.Machine

variable (s : State)

/-- The fields a fetch leaves alone: all but the word read ahead, the transcript, the draws and the inhibit. -/
structure Fetches (s t : State) : Prop where
  regs : t.regs = s.regs
  pc : t.pc = s.pc
  ccr : t.ccr = s.ccr
  mem : t.mem = s.mem
  pstate : t.pstate = s.pstate
  par : t.par = s.par
  ssby : t.ssby = s.ssby
  host : t.host = s.host

theorem Fetches.trans {s t u : State} (h : Fetches s t) (k : Fetches t u) : Fetches s u := by
  cases h; cases k; constructor <;> simp_all

theorem fetches_seeW (a : Addr) : Fetches s (s.seeW a) := by constructor <;> simp

theorem fetches_readAhead (a : Addr) : Fetches s (s.readAhead a) := by constructor <;> simp

theorem fetches_opened : Fetches s s.opened := by
  unfold State.opened; split
  · constructor <;> rfl
  · exact fetches_seeW s _

theorem fetches_seeWords (n : Nat) : ∀ (s : State) (a : Addr), Fetches s (s.seeWords a n) := by
  induction n with
  | zero => intro s a; constructor <;> rfl
  | succ n ih => intro s a; exact (fetches_seeW s a).trans (ih _ _)

theorem fetches_fetched (i : Instr) : Fetches s (s.fetched i) :=
  (fetches_opened s).trans (fetches_seeWords _ _ _)

theorem fetches_readNext (i : Instr) : Fetches s (s.readNext i) := by
  unfold State.readNext; split <;> constructor <;> simp

/-- An instruction starts from the registers, CCR, PC, memory and platform of the state before. -/
theorem fetches_started (i : Instr) : Fetches s (s.started i) :=
  ((fetches_fetched s i).trans (fetches_readNext _ i)).trans (by constructor <;> rfl)

@[simp] theorem State.started_regs (i : Instr) : (s.started i).regs = s.regs := (fetches_started s i).regs
@[simp] theorem State.started_pc (i : Instr) : (s.started i).pc = s.pc := (fetches_started s i).pc
@[simp] theorem State.started_ccr (i : Instr) : (s.started i).ccr = s.ccr := (fetches_started s i).ccr
@[simp] theorem State.started_mem (i : Instr) : (s.started i).mem = s.mem := (fetches_started s i).mem
@[simp] theorem State.started_pstate (i : Instr) : (s.started i).pstate = s.pstate := (fetches_started s i).pstate
@[simp] theorem State.started_par (i : Instr) : (s.started i).par = s.par := (fetches_started s i).par
@[simp] theorem State.started_ssby (i : Instr) : (s.started i).ssby = s.ssby := (fetches_started s i).ssby
@[simp] theorem State.started_host (i : Instr) : (s.started i).host = s.host := (fetches_started s i).host
@[simp] theorem State.started_irqInhibit (i : Instr) : (s.started i).irqInhibit = false := rfl

/-! ### The cycles -/

theorem RecordReads.append {xs ys : List Addr} {s t u : State} (hp : t.par = s.par) (h : RecordReads xs s t)
    (k : RecordReads ys t u) : RecordReads (xs ++ ys) s u := by
  induction xs generalizing s with
  | nil =>
    cases ys with
    | nil => exact ⟨k.1.trans h.1, k.2.trans h.2⟩
    | cons a r =>
      obtain ⟨v, vp, hr, hs⟩ := k
      rw [State.wordAddr_congr hp] at hr
      exact ⟨v, vp.trans hp, recordRead_congr hr hp.symm h.1.symm h.2.symm rfl rfl, hs⟩
  | cons a r ih =>
    obtain ⟨v, vp, hr, hs⟩ := h
    exact ⟨v, vp, hr, ih (hp.trans vp.symm) hs⟩

theorem recordReads_seeW (a : Addr) : RecordReads [a] s (s.seeW a) :=
  ⟨s.seeW a, by simp, seeW_record s a, rfl, rfl⟩

/-- The draws and the transcript are all a chain of reads is about. -/
theorem RecordReads.congr {xs : List Addr} {s t u : State} (h : RecordReads xs s t) (hb : u.bus = t.bus)
    (hd : u.draws = t.draws) : RecordReads xs s u := by
  induction xs generalizing s with
  | nil => exact ⟨hb.trans h.1, hd.trans h.2⟩
  | cons a r ih =>
    obtain ⟨v, vp, hr, hs⟩ := h
    exact ⟨v, vp, hr, ih hs⟩

/-- Reading `n` words is `n` cycles at rising addresses. -/
theorem recordReads_seeWords (n : Nat) : ∀ (s : State) (a : Addr),
    RecordReads ((List.range n).map (fun k => a + BitVec.ofNat 24 (2 * k))) s (s.seeWords a n) := by
  induction n with
  | zero => intro s a; exact ⟨rfl, rfl⟩
  | succ n ih =>
    intro s a
    rw [List.range_succ_eq_map, List.map_cons, List.map_map]
    have h := (recordReads_seeW s a).append (by simp) (ih (s.seeW a) (a + 2#24))
    simp only [List.singleton_append] at h
    have e : (fun k => a + BitVec.ofNat 24 (2 * k)) ∘ Nat.succ = fun k => a + 2#24 + BitVec.ofNat 24 (2 * k) := by
      funext k
      simp only [Function.comp_apply, Nat.mul_succ, BitVec.ofNat_add, BitVec.add_assoc]
      congr 1
      rw [BitVec.add_comm]
    rw [e]
    simpa [State.seeWords] using h

/-- The fetches of a step up to the first data cycle. -/
theorem recordReads_started (i : Instr) : RecordReads (s.fetchAddresses i) s (s.started i) := by
  have h1 : RecordReads (if s.prefetch = none then [s.pc] else []) s s.opened := by
    unfold State.opened
    cases h : s.prefetch with
    | none => simpa using recordReads_seeW s s.pc
    | some w => exact ⟨rfl, rfl⟩
  have h2 := recordReads_seeWords (i.length / 2 - 1) s.opened (s.pc + 2#24)
  have h3 : RecordReads (if (nextRead i).early then [s.nextPc i] else []) (s.fetched i) (s.started i) := by
    have hn : (s.fetched i).next i.length = s.nextPc i :=
      State.next_congr (fetches_fetched s i).pc (fetches_fetched s i).par _
    unfold State.started State.readNext
    rw [hn]
    cases h : nextRead i with
    | first | branch => exact (recordReads_seeW (s.fetched i) (s.nextPc i)).congr rfl rfl
    | dropped => exact (recordReads_seeW (s.fetched i) (s.nextPc i)).congr rfl rfl
    | within | last => exact ⟨rfl, rfl⟩
  exact (h1.append (fetches_opened s).par h2).append (fetches_fetched s i).par h3

/-- What is held when an instruction starts: NEXT, if it comes first. -/
theorem State.started_prefetch (i : Instr) :
    (s.started i).prefetch =
      if (nextRead i).held then some ((s.fetched i).loadW (s.nextPc i)) else none := by
  have hn : (s.fetched i).next i.length = s.nextPc i :=
    State.next_congr (fetches_fetched s i).pc (fetches_fetched s i).par _
  unfold State.started State.readNext
  rw [hn]
  cases nextRead i <;> rfl

/-! ### The number of fetches (R733) -/

/-- The instruction fetches of a row of Table 2.10 as the model makes them: the words after the first, NEXT
before the data cycles, and the word that runs next where that is another read. -/
def fetchCount (i : Instr) : Nat :=
  i.length / 2 - 1 + match nextRead i with | .first | .within | .last => 1 | .branch | .dropped => 2

/-- It is the I of Table 2.8 for every instruction. -/
theorem fetchCount_eq_cycles (i : Instr) (m : Mode) (k : Nat) : fetchCount i = (cyclesOf i m k).i := by
  cases i <;> with_unfolding_all rfl

/-! ### In a space of ordinary memory -/

theorem State.seeW_allMemory (h : s.AllMemory) (a : Addr) : s.seeW a = s := by
  unfold State.AllMemory at h
  simp [State.seeW, State.seen, State.kindAt, h, regionKind]

theorem State.readAhead_allMemory (h : s.AllMemory) (a : Addr) :
    s.readAhead a = { s with prefetch := some (s.loadW a) } := by
  unfold State.readAhead; rw [s.seeW_allMemory h]

theorem State.seeWords_allMemory (h : s.AllMemory) (n : Nat) : ∀ a : Addr, s.seeWords a n = s := by
  induction n with
  | zero => intro a; rfl
  | succ n ih => intro a; unfold State.seeWords; rw [s.seeW_allMemory h, ih]

/-- In ordinary memory an instruction starts with NEXT held where it comes first, and the inhibit cleared. -/
theorem State.started_allMemory (h : s.AllMemory) (i : Instr) :
    s.started i = { s with
      irqInhibit := false
      prefetch := if (nextRead i).held then some (s.loadW (s.nextPc i)) else none } := by
  have ho : s.opened = s := by unfold State.opened; split <;> simp [s.seeW_allMemory h]
  have hf : s.fetched i = s := by unfold State.fetched; rw [ho, s.seeWords_allMemory h]
  have hn : s.next i.length = s.nextPc i := rfl
  unfold State.started State.readNext
  rw [hf, hn]
  cases nextRead i <;> simp [NextRead.held, s.readAhead_allMemory h, s.seeW_allMemory h]

/-- What one instruction can do: the decoded instruction's next state with the due fetch made, or a refusal. -/
theorem State.runInstruction_next {t : State} (h : s.runInstruction = .next t) :
    ∃ i u, decode s.fetchBytes = .ok i ∧ exec i (s.started i) = .next u ∧ t = u.fetchDue.tick := by
  unfold State.runInstruction at h
  split at h
  · rename_i i hd
    split at h
    · rename_i u he
      cases h
      exact ⟨i, u, hd, he, rfl⟩
    · cases h
    · cases h
  · cases h

end Sys2Proof.Machine
end

