-- ==== Sys2Proof/Laws/PerInstr.lean ====
section
/-! SUPPORT. One lemma per instruction: its encoding has the length R121 gives it. -/

namespace Sys2Proof.Laws.EncodedLength

/-- The encoding has the instruction's length, which is 2, 4, 6, 8 or 10 bytes (R121). -/
def Statement (i : Instr) : Prop := (encode i).length = i.length ∧ [2, 4, 6, 8, 10].contains i.length = true

theorem movBReg (rs : R8) (rd : R8) : Statement (.movBReg rs rd) := ⟨rfl, rfl⟩
theorem movWReg (rs : R16) (rd : R16) : Statement (.movWReg rs rd) := ⟨rfl, rfl⟩
theorem movLReg (ers : ER) (erd : ER) : Statement (.movLReg ers erd) := ⟨rfl, rfl⟩
theorem movBImm (imm : BitVec 8) (rd : R8) : Statement (.movBImm imm rd) := ⟨rfl, rfl⟩
theorem movWImm (imm : BitVec 16) (rd : R16) : Statement (.movWImm imm rd) := ⟨rfl, rfl⟩
theorem movLImm (imm : BitVec 32) (erd : ER) : Statement (.movLImm imm erd) := ⟨rfl, rfl⟩
theorem movBLoadInd (ers : ER) (rd : R8) : Statement (.movBLoadInd ers rd) := ⟨rfl, rfl⟩
theorem movBLoadDisp16 (d : BitVec 16) (ers : ER) (rd : R8) : Statement (.movBLoadDisp16 d ers rd) := ⟨rfl, rfl⟩
theorem movBLoadDisp24 (d : BitVec 24) (ers : ER) (rd : R8) : Statement (.movBLoadDisp24 d ers rd) := ⟨rfl, rfl⟩
theorem movBLoadInc (ers : ER) (rd : R8) : Statement (.movBLoadInc ers rd) := ⟨rfl, rfl⟩
theorem movBLoadAbs8 (aa : BitVec 8) (rd : R8) : Statement (.movBLoadAbs8 aa rd) := ⟨rfl, rfl⟩
theorem movBLoadAbs16 (aa : BitVec 16) (rd : R8) : Statement (.movBLoadAbs16 aa rd) := ⟨rfl, rfl⟩
theorem movBLoadAbs24 (aa : BitVec 24) (rd : R8) : Statement (.movBLoadAbs24 aa rd) := ⟨rfl, rfl⟩
theorem movWLoadInd (ers : ER) (rd : R16) : Statement (.movWLoadInd ers rd) := ⟨rfl, rfl⟩
theorem movWLoadDisp16 (d : BitVec 16) (ers : ER) (rd : R16) : Statement (.movWLoadDisp16 d ers rd) := ⟨rfl, rfl⟩
theorem movWLoadDisp24 (d : BitVec 24) (ers : ER) (rd : R16) : Statement (.movWLoadDisp24 d ers rd) := ⟨rfl, rfl⟩
theorem movWLoadInc (ers : ER) (rd : R16) : Statement (.movWLoadInc ers rd) := ⟨rfl, rfl⟩
theorem movWLoadAbs16 (aa : BitVec 16) (rd : R16) : Statement (.movWLoadAbs16 aa rd) := ⟨rfl, rfl⟩
theorem movWLoadAbs24 (aa : BitVec 24) (rd : R16) : Statement (.movWLoadAbs24 aa rd) := ⟨rfl, rfl⟩
theorem movLLoadInd (ers : ER) (erd : ER) : Statement (.movLLoadInd ers erd) := ⟨rfl, rfl⟩
theorem movLLoadDisp16 (d : BitVec 16) (ers : ER) (erd : ER) : Statement (.movLLoadDisp16 d ers erd) := ⟨rfl, rfl⟩
theorem movLLoadDisp24 (d : BitVec 24) (ers : ER) (erd : ER) : Statement (.movLLoadDisp24 d ers erd) := ⟨rfl, rfl⟩
theorem movLLoadInc (ers : ER) (erd : ER) : Statement (.movLLoadInc ers erd) := ⟨rfl, rfl⟩
theorem movLLoadAbs16 (aa : BitVec 16) (erd : ER) : Statement (.movLLoadAbs16 aa erd) := ⟨rfl, rfl⟩
theorem movLLoadAbs24 (aa : BitVec 24) (erd : ER) : Statement (.movLLoadAbs24 aa erd) := ⟨rfl, rfl⟩
theorem movBStoreInd (rs : R8) (erd : ER) : Statement (.movBStoreInd rs erd) := ⟨rfl, rfl⟩
theorem movBStoreDisp16 (rs : R8) (d : BitVec 16) (erd : ER) : Statement (.movBStoreDisp16 rs d erd) := ⟨rfl, rfl⟩
theorem movBStoreDisp24 (rs : R8) (d : BitVec 24) (erd : ER) : Statement (.movBStoreDisp24 rs d erd) := ⟨rfl, rfl⟩
theorem movBStoreDec (rs : R8) (erd : ER) : Statement (.movBStoreDec rs erd) := ⟨rfl, rfl⟩
theorem movBStoreAbs8 (rs : R8) (aa : BitVec 8) : Statement (.movBStoreAbs8 rs aa) := ⟨rfl, rfl⟩
theorem movBStoreAbs16 (rs : R8) (aa : BitVec 16) : Statement (.movBStoreAbs16 rs aa) := ⟨rfl, rfl⟩
theorem movBStoreAbs24 (rs : R8) (aa : BitVec 24) : Statement (.movBStoreAbs24 rs aa) := ⟨rfl, rfl⟩
theorem movWStoreInd (rs : R16) (erd : ER) : Statement (.movWStoreInd rs erd) := ⟨rfl, rfl⟩
theorem movWStoreDisp16 (rs : R16) (d : BitVec 16) (erd : ER) : Statement (.movWStoreDisp16 rs d erd) := ⟨rfl, rfl⟩
theorem movWStoreDisp24 (rs : R16) (d : BitVec 24) (erd : ER) : Statement (.movWStoreDisp24 rs d erd) := ⟨rfl, rfl⟩
theorem movWStoreDec (rs : R16) (erd : ER) : Statement (.movWStoreDec rs erd) := ⟨rfl, rfl⟩
theorem movWStoreAbs16 (rs : R16) (aa : BitVec 16) : Statement (.movWStoreAbs16 rs aa) := ⟨rfl, rfl⟩
theorem movWStoreAbs24 (rs : R16) (aa : BitVec 24) : Statement (.movWStoreAbs24 rs aa) := ⟨rfl, rfl⟩
theorem movLStoreInd (ers : ER) (erd : ER) : Statement (.movLStoreInd ers erd) := ⟨rfl, rfl⟩
theorem movLStoreDisp16 (ers : ER) (d : BitVec 16) (erd : ER) : Statement (.movLStoreDisp16 ers d erd) := ⟨rfl, rfl⟩
theorem movLStoreDisp24 (ers : ER) (d : BitVec 24) (erd : ER) : Statement (.movLStoreDisp24 ers d erd) := ⟨rfl, rfl⟩
theorem movLStoreDec (ers : ER) (erd : ER) : Statement (.movLStoreDec ers erd) := ⟨rfl, rfl⟩
theorem movLStoreAbs16 (ers : ER) (aa : BitVec 16) : Statement (.movLStoreAbs16 ers aa) := ⟨rfl, rfl⟩
theorem movLStoreAbs24 (ers : ER) (aa : BitVec 24) : Statement (.movLStoreAbs24 ers aa) := ⟨rfl, rfl⟩
theorem popW (rn : R16) : Statement (.popW rn) := ⟨rfl, rfl⟩
theorem popL (ern : ER) : Statement (.popL ern) := ⟨rfl, rfl⟩
theorem pushW (rn : R16) : Statement (.pushW rn) := ⟨rfl, rfl⟩
theorem pushL (ern : ER) : Statement (.pushL ern) := ⟨rfl, rfl⟩
theorem movfpe (aa : BitVec 16) (rd : R8) : Statement (.movfpe aa rd) := ⟨rfl, rfl⟩
theorem movtpe (rs : R8) (aa : BitVec 16) : Statement (.movtpe rs aa) := ⟨rfl, rfl⟩
theorem addBImm (imm : BitVec 8) (rd : R8) : Statement (.addBImm imm rd) := ⟨rfl, rfl⟩
theorem addBReg (rs : R8) (rd : R8) : Statement (.addBReg rs rd) := ⟨rfl, rfl⟩
theorem addWImm (imm : BitVec 16) (rd : R16) : Statement (.addWImm imm rd) := ⟨rfl, rfl⟩
theorem addWReg (rs : R16) (rd : R16) : Statement (.addWReg rs rd) := ⟨rfl, rfl⟩
theorem addLImm (imm : BitVec 32) (erd : ER) : Statement (.addLImm imm erd) := ⟨rfl, rfl⟩
theorem addLReg (ers : ER) (erd : ER) : Statement (.addLReg ers erd) := ⟨rfl, rfl⟩
theorem adds1 (erd : ER) : Statement (.adds1 erd) := ⟨rfl, rfl⟩
theorem adds2 (erd : ER) : Statement (.adds2 erd) := ⟨rfl, rfl⟩
theorem adds4 (erd : ER) : Statement (.adds4 erd) := ⟨rfl, rfl⟩
theorem addxImm (imm : BitVec 8) (rd : R8) : Statement (.addxImm imm rd) := ⟨rfl, rfl⟩
theorem addxReg (rs : R8) (rd : R8) : Statement (.addxReg rs rd) := ⟨rfl, rfl⟩
theorem subBReg (rs : R8) (rd : R8) : Statement (.subBReg rs rd) := ⟨rfl, rfl⟩
theorem subWImm (imm : BitVec 16) (rd : R16) : Statement (.subWImm imm rd) := ⟨rfl, rfl⟩
theorem subWReg (rs : R16) (rd : R16) : Statement (.subWReg rs rd) := ⟨rfl, rfl⟩
theorem subLImm (imm : BitVec 32) (erd : ER) : Statement (.subLImm imm erd) := ⟨rfl, rfl⟩
theorem subLReg (ers : ER) (erd : ER) : Statement (.subLReg ers erd) := ⟨rfl, rfl⟩
theorem subs1 (erd : ER) : Statement (.subs1 erd) := ⟨rfl, rfl⟩
theorem subs2 (erd : ER) : Statement (.subs2 erd) := ⟨rfl, rfl⟩
theorem subs4 (erd : ER) : Statement (.subs4 erd) := ⟨rfl, rfl⟩
theorem subxImm (imm : BitVec 8) (rd : R8) : Statement (.subxImm imm rd) := ⟨rfl, rfl⟩
theorem subxReg (rs : R8) (rd : R8) : Statement (.subxReg rs rd) := ⟨rfl, rfl⟩
theorem incB (rd : R8) : Statement (.incB rd) := ⟨rfl, rfl⟩
theorem incW1 (rd : R16) : Statement (.incW1 rd) := ⟨rfl, rfl⟩
theorem incW2 (rd : R16) : Statement (.incW2 rd) := ⟨rfl, rfl⟩
theorem incL1 (erd : ER) : Statement (.incL1 erd) := ⟨rfl, rfl⟩
theorem incL2 (erd : ER) : Statement (.incL2 erd) := ⟨rfl, rfl⟩
theorem decB (rd : R8) : Statement (.decB rd) := ⟨rfl, rfl⟩
theorem decW1 (rd : R16) : Statement (.decW1 rd) := ⟨rfl, rfl⟩
theorem decW2 (rd : R16) : Statement (.decW2 rd) := ⟨rfl, rfl⟩
theorem decL1 (erd : ER) : Statement (.decL1 erd) := ⟨rfl, rfl⟩
theorem decL2 (erd : ER) : Statement (.decL2 erd) := ⟨rfl, rfl⟩
theorem daa (rd : R8) : Statement (.daa rd) := ⟨rfl, rfl⟩
theorem das (rd : R8) : Statement (.das rd) := ⟨rfl, rfl⟩
theorem mulxuB (rs : R8) (rd : R16) : Statement (.mulxuB rs rd) := ⟨rfl, rfl⟩
theorem mulxuW (rs : R16) (erd : ER) : Statement (.mulxuW rs erd) := ⟨rfl, rfl⟩
theorem mulxsB (rs : R8) (rd : R16) : Statement (.mulxsB rs rd) := ⟨rfl, rfl⟩
theorem mulxsW (rs : R16) (erd : ER) : Statement (.mulxsW rs erd) := ⟨rfl, rfl⟩
theorem divxuB (rs : R8) (rd : R16) : Statement (.divxuB rs rd) := ⟨rfl, rfl⟩
theorem divxuW (rs : R16) (erd : ER) : Statement (.divxuW rs erd) := ⟨rfl, rfl⟩
theorem divxsB (rs : R8) (rd : R16) : Statement (.divxsB rs rd) := ⟨rfl, rfl⟩
theorem divxsW (rs : R16) (erd : ER) : Statement (.divxsW rs erd) := ⟨rfl, rfl⟩
theorem cmpBImm (imm : BitVec 8) (rd : R8) : Statement (.cmpBImm imm rd) := ⟨rfl, rfl⟩
theorem cmpBReg (rs : R8) (rd : R8) : Statement (.cmpBReg rs rd) := ⟨rfl, rfl⟩
theorem cmpWImm (imm : BitVec 16) (rd : R16) : Statement (.cmpWImm imm rd) := ⟨rfl, rfl⟩
theorem cmpWReg (rs : R16) (rd : R16) : Statement (.cmpWReg rs rd) := ⟨rfl, rfl⟩
theorem cmpLImm (imm : BitVec 32) (erd : ER) : Statement (.cmpLImm imm erd) := ⟨rfl, rfl⟩
theorem cmpLReg (ers : ER) (erd : ER) : Statement (.cmpLReg ers erd) := ⟨rfl, rfl⟩
theorem negB (rd : R8) : Statement (.negB rd) := ⟨rfl, rfl⟩
theorem negW (rd : R16) : Statement (.negW rd) := ⟨rfl, rfl⟩
theorem negL (erd : ER) : Statement (.negL erd) := ⟨rfl, rfl⟩
theorem extsW (rd : R16) : Statement (.extsW rd) := ⟨rfl, rfl⟩
theorem extsL (erd : ER) : Statement (.extsL erd) := ⟨rfl, rfl⟩
theorem extuW (rd : R16) : Statement (.extuW rd) := ⟨rfl, rfl⟩
theorem extuL (erd : ER) : Statement (.extuL erd) := ⟨rfl, rfl⟩
theorem andBImm (imm : BitVec 8) (rd : R8) : Statement (.andBImm imm rd) := ⟨rfl, rfl⟩
theorem andBReg (rs : R8) (rd : R8) : Statement (.andBReg rs rd) := ⟨rfl, rfl⟩
theorem andWImm (imm : BitVec 16) (rd : R16) : Statement (.andWImm imm rd) := ⟨rfl, rfl⟩
theorem andWReg (rs : R16) (rd : R16) : Statement (.andWReg rs rd) := ⟨rfl, rfl⟩
theorem andLImm (imm : BitVec 32) (erd : ER) : Statement (.andLImm imm erd) := ⟨rfl, rfl⟩
theorem andLReg (ers : ER) (erd : ER) : Statement (.andLReg ers erd) := ⟨rfl, rfl⟩
theorem orBImm (imm : BitVec 8) (rd : R8) : Statement (.orBImm imm rd) := ⟨rfl, rfl⟩
theorem orBReg (rs : R8) (rd : R8) : Statement (.orBReg rs rd) := ⟨rfl, rfl⟩
theorem orWImm (imm : BitVec 16) (rd : R16) : Statement (.orWImm imm rd) := ⟨rfl, rfl⟩
theorem orWReg (rs : R16) (rd : R16) : Statement (.orWReg rs rd) := ⟨rfl, rfl⟩
theorem orLImm (imm : BitVec 32) (erd : ER) : Statement (.orLImm imm erd) := ⟨rfl, rfl⟩
theorem orLReg (ers : ER) (erd : ER) : Statement (.orLReg ers erd) := ⟨rfl, rfl⟩
theorem xorBImm (imm : BitVec 8) (rd : R8) : Statement (.xorBImm imm rd) := ⟨rfl, rfl⟩
theorem xorBReg (rs : R8) (rd : R8) : Statement (.xorBReg rs rd) := ⟨rfl, rfl⟩
theorem xorWImm (imm : BitVec 16) (rd : R16) : Statement (.xorWImm imm rd) := ⟨rfl, rfl⟩
theorem xorWReg (rs : R16) (rd : R16) : Statement (.xorWReg rs rd) := ⟨rfl, rfl⟩
theorem xorLImm (imm : BitVec 32) (erd : ER) : Statement (.xorLImm imm erd) := ⟨rfl, rfl⟩
theorem xorLReg (ers : ER) (erd : ER) : Statement (.xorLReg ers erd) := ⟨rfl, rfl⟩
theorem notB (rd : R8) : Statement (.notB rd) := ⟨rfl, rfl⟩
theorem notW (rd : R16) : Statement (.notW rd) := ⟨rfl, rfl⟩
theorem notL (erd : ER) : Statement (.notL erd) := ⟨rfl, rfl⟩
theorem shalB (rd : R8) : Statement (.shalB rd) := ⟨rfl, rfl⟩
theorem shalW (rd : R16) : Statement (.shalW rd) := ⟨rfl, rfl⟩
theorem shalL (erd : ER) : Statement (.shalL erd) := ⟨rfl, rfl⟩
theorem sharB (rd : R8) : Statement (.sharB rd) := ⟨rfl, rfl⟩
theorem sharW (rd : R16) : Statement (.sharW rd) := ⟨rfl, rfl⟩
theorem sharL (erd : ER) : Statement (.sharL erd) := ⟨rfl, rfl⟩
theorem shllB (rd : R8) : Statement (.shllB rd) := ⟨rfl, rfl⟩
theorem shllW (rd : R16) : Statement (.shllW rd) := ⟨rfl, rfl⟩
theorem shllL (erd : ER) : Statement (.shllL erd) := ⟨rfl, rfl⟩
theorem shlrB (rd : R8) : Statement (.shlrB rd) := ⟨rfl, rfl⟩
theorem shlrW (rd : R16) : Statement (.shlrW rd) := ⟨rfl, rfl⟩
theorem shlrL (erd : ER) : Statement (.shlrL erd) := ⟨rfl, rfl⟩
theorem rotlB (rd : R8) : Statement (.rotlB rd) := ⟨rfl, rfl⟩
theorem rotlW (rd : R16) : Statement (.rotlW rd) := ⟨rfl, rfl⟩
theorem rotlL (erd : ER) : Statement (.rotlL erd) := ⟨rfl, rfl⟩
theorem rotrB (rd : R8) : Statement (.rotrB rd) := ⟨rfl, rfl⟩
theorem rotrW (rd : R16) : Statement (.rotrW rd) := ⟨rfl, rfl⟩
theorem rotrL (erd : ER) : Statement (.rotrL erd) := ⟨rfl, rfl⟩
theorem rotxlB (rd : R8) : Statement (.rotxlB rd) := ⟨rfl, rfl⟩
theorem rotxlW (rd : R16) : Statement (.rotxlW rd) := ⟨rfl, rfl⟩
theorem rotxlL (erd : ER) : Statement (.rotxlL erd) := ⟨rfl, rfl⟩
theorem rotxrB (rd : R8) : Statement (.rotxrB rd) := ⟨rfl, rfl⟩
theorem rotxrW (rd : R16) : Statement (.rotxrW rd) := ⟨rfl, rfl⟩
theorem rotxrL (erd : ER) : Statement (.rotxrL erd) := ⟨rfl, rfl⟩
theorem bsetImmReg (n : BitVec 3) (rd : R8) : Statement (.bsetImmReg n rd) := ⟨rfl, rfl⟩
theorem bsetImmInd (n : BitVec 3) (erd : ER) : Statement (.bsetImmInd n erd) := ⟨rfl, rfl⟩
theorem bsetImmAbs (n : BitVec 3) (aa : BitVec 8) : Statement (.bsetImmAbs n aa) := ⟨rfl, rfl⟩
theorem bsetRnReg (rn : R8) (rd : R8) : Statement (.bsetRnReg rn rd) := ⟨rfl, rfl⟩
theorem bsetRnInd (rn : R8) (erd : ER) : Statement (.bsetRnInd rn erd) := ⟨rfl, rfl⟩
theorem bsetRnAbs (rn : R8) (aa : BitVec 8) : Statement (.bsetRnAbs rn aa) := ⟨rfl, rfl⟩
theorem bclrImmReg (n : BitVec 3) (rd : R8) : Statement (.bclrImmReg n rd) := ⟨rfl, rfl⟩
theorem bclrImmInd (n : BitVec 3) (erd : ER) : Statement (.bclrImmInd n erd) := ⟨rfl, rfl⟩
theorem bclrImmAbs (n : BitVec 3) (aa : BitVec 8) : Statement (.bclrImmAbs n aa) := ⟨rfl, rfl⟩
theorem bclrRnReg (rn : R8) (rd : R8) : Statement (.bclrRnReg rn rd) := ⟨rfl, rfl⟩
theorem bclrRnInd (rn : R8) (erd : ER) : Statement (.bclrRnInd rn erd) := ⟨rfl, rfl⟩
theorem bclrRnAbs (rn : R8) (aa : BitVec 8) : Statement (.bclrRnAbs rn aa) := ⟨rfl, rfl⟩
theorem bnotImmReg (n : BitVec 3) (rd : R8) : Statement (.bnotImmReg n rd) := ⟨rfl, rfl⟩
theorem bnotImmInd (n : BitVec 3) (erd : ER) : Statement (.bnotImmInd n erd) := ⟨rfl, rfl⟩
theorem bnotImmAbs (n : BitVec 3) (aa : BitVec 8) : Statement (.bnotImmAbs n aa) := ⟨rfl, rfl⟩
theorem bnotRnReg (rn : R8) (rd : R8) : Statement (.bnotRnReg rn rd) := ⟨rfl, rfl⟩
theorem bnotRnInd (rn : R8) (erd : ER) : Statement (.bnotRnInd rn erd) := ⟨rfl, rfl⟩
theorem bnotRnAbs (rn : R8) (aa : BitVec 8) : Statement (.bnotRnAbs rn aa) := ⟨rfl, rfl⟩
theorem btstImmReg (n : BitVec 3) (rd : R8) : Statement (.btstImmReg n rd) := ⟨rfl, rfl⟩
theorem btstImmInd (n : BitVec 3) (erd : ER) : Statement (.btstImmInd n erd) := ⟨rfl, rfl⟩
theorem btstImmAbs (n : BitVec 3) (aa : BitVec 8) : Statement (.btstImmAbs n aa) := ⟨rfl, rfl⟩
theorem btstRnReg (rn : R8) (rd : R8) : Statement (.btstRnReg rn rd) := ⟨rfl, rfl⟩
theorem btstRnInd (rn : R8) (erd : ER) : Statement (.btstRnInd rn erd) := ⟨rfl, rfl⟩
theorem btstRnAbs (rn : R8) (aa : BitVec 8) : Statement (.btstRnAbs rn aa) := ⟨rfl, rfl⟩
theorem bandReg (n : BitVec 3) (rd : R8) : Statement (.bandReg n rd) := ⟨rfl, rfl⟩
theorem bandInd (n : BitVec 3) (erd : ER) : Statement (.bandInd n erd) := ⟨rfl, rfl⟩
theorem bandAbs (n : BitVec 3) (aa : BitVec 8) : Statement (.bandAbs n aa) := ⟨rfl, rfl⟩
theorem biandReg (n : BitVec 3) (rd : R8) : Statement (.biandReg n rd) := ⟨rfl, rfl⟩
theorem biandInd (n : BitVec 3) (erd : ER) : Statement (.biandInd n erd) := ⟨rfl, rfl⟩
theorem biandAbs (n : BitVec 3) (aa : BitVec 8) : Statement (.biandAbs n aa) := ⟨rfl, rfl⟩
theorem borReg (n : BitVec 3) (rd : R8) : Statement (.borReg n rd) := ⟨rfl, rfl⟩
theorem borInd (n : BitVec 3) (erd : ER) : Statement (.borInd n erd) := ⟨rfl, rfl⟩
theorem borAbs (n : BitVec 3) (aa : BitVec 8) : Statement (.borAbs n aa) := ⟨rfl, rfl⟩
theorem biorReg (n : BitVec 3) (rd : R8) : Statement (.biorReg n rd) := ⟨rfl, rfl⟩
theorem biorInd (n : BitVec 3) (erd : ER) : Statement (.biorInd n erd) := ⟨rfl, rfl⟩
theorem biorAbs (n : BitVec 3) (aa : BitVec 8) : Statement (.biorAbs n aa) := ⟨rfl, rfl⟩
theorem bxorReg (n : BitVec 3) (rd : R8) : Statement (.bxorReg n rd) := ⟨rfl, rfl⟩
theorem bxorInd (n : BitVec 3) (erd : ER) : Statement (.bxorInd n erd) := ⟨rfl, rfl⟩
theorem bxorAbs (n : BitVec 3) (aa : BitVec 8) : Statement (.bxorAbs n aa) := ⟨rfl, rfl⟩
theorem bixorReg (n : BitVec 3) (rd : R8) : Statement (.bixorReg n rd) := ⟨rfl, rfl⟩
theorem bixorInd (n : BitVec 3) (erd : ER) : Statement (.bixorInd n erd) := ⟨rfl, rfl⟩
theorem bixorAbs (n : BitVec 3) (aa : BitVec 8) : Statement (.bixorAbs n aa) := ⟨rfl, rfl⟩
theorem bldReg (n : BitVec 3) (rd : R8) : Statement (.bldReg n rd) := ⟨rfl, rfl⟩
theorem bldInd (n : BitVec 3) (erd : ER) : Statement (.bldInd n erd) := ⟨rfl, rfl⟩
theorem bldAbs (n : BitVec 3) (aa : BitVec 8) : Statement (.bldAbs n aa) := ⟨rfl, rfl⟩
theorem bildReg (n : BitVec 3) (rd : R8) : Statement (.bildReg n rd) := ⟨rfl, rfl⟩
theorem bildInd (n : BitVec 3) (erd : ER) : Statement (.bildInd n erd) := ⟨rfl, rfl⟩
theorem bildAbs (n : BitVec 3) (aa : BitVec 8) : Statement (.bildAbs n aa) := ⟨rfl, rfl⟩
theorem bstReg (n : BitVec 3) (rd : R8) : Statement (.bstReg n rd) := ⟨rfl, rfl⟩
theorem bstInd (n : BitVec 3) (erd : ER) : Statement (.bstInd n erd) := ⟨rfl, rfl⟩
theorem bstAbs (n : BitVec 3) (aa : BitVec 8) : Statement (.bstAbs n aa) := ⟨rfl, rfl⟩
theorem bistReg (n : BitVec 3) (rd : R8) : Statement (.bistReg n rd) := ⟨rfl, rfl⟩
theorem bistInd (n : BitVec 3) (erd : ER) : Statement (.bistInd n erd) := ⟨rfl, rfl⟩
theorem bistAbs (n : BitVec 3) (aa : BitVec 8) : Statement (.bistAbs n aa) := ⟨rfl, rfl⟩
theorem braD8 (d : BitVec 8) : Statement (.braD8 d) := ⟨rfl, rfl⟩
theorem braD16 (d : BitVec 16) : Statement (.braD16 d) := ⟨rfl, rfl⟩
theorem brnD8 (d : BitVec 8) : Statement (.brnD8 d) := ⟨rfl, rfl⟩
theorem brnD16 (d : BitVec 16) : Statement (.brnD16 d) := ⟨rfl, rfl⟩
theorem bhiD8 (d : BitVec 8) : Statement (.bhiD8 d) := ⟨rfl, rfl⟩
theorem bhiD16 (d : BitVec 16) : Statement (.bhiD16 d) := ⟨rfl, rfl⟩
theorem blsD8 (d : BitVec 8) : Statement (.blsD8 d) := ⟨rfl, rfl⟩
theorem blsD16 (d : BitVec 16) : Statement (.blsD16 d) := ⟨rfl, rfl⟩
theorem bccD8 (d : BitVec 8) : Statement (.bccD8 d) := ⟨rfl, rfl⟩
theorem bccD16 (d : BitVec 16) : Statement (.bccD16 d) := ⟨rfl, rfl⟩
theorem bcsD8 (d : BitVec 8) : Statement (.bcsD8 d) := ⟨rfl, rfl⟩
theorem bcsD16 (d : BitVec 16) : Statement (.bcsD16 d) := ⟨rfl, rfl⟩
theorem bneD8 (d : BitVec 8) : Statement (.bneD8 d) := ⟨rfl, rfl⟩
theorem bneD16 (d : BitVec 16) : Statement (.bneD16 d) := ⟨rfl, rfl⟩
theorem beqD8 (d : BitVec 8) : Statement (.beqD8 d) := ⟨rfl, rfl⟩
theorem beqD16 (d : BitVec 16) : Statement (.beqD16 d) := ⟨rfl, rfl⟩
theorem bvcD8 (d : BitVec 8) : Statement (.bvcD8 d) := ⟨rfl, rfl⟩
theorem bvcD16 (d : BitVec 16) : Statement (.bvcD16 d) := ⟨rfl, rfl⟩
theorem bvsD8 (d : BitVec 8) : Statement (.bvsD8 d) := ⟨rfl, rfl⟩
theorem bvsD16 (d : BitVec 16) : Statement (.bvsD16 d) := ⟨rfl, rfl⟩
theorem bplD8 (d : BitVec 8) : Statement (.bplD8 d) := ⟨rfl, rfl⟩
theorem bplD16 (d : BitVec 16) : Statement (.bplD16 d) := ⟨rfl, rfl⟩
theorem bmiD8 (d : BitVec 8) : Statement (.bmiD8 d) := ⟨rfl, rfl⟩
theorem bmiD16 (d : BitVec 16) : Statement (.bmiD16 d) := ⟨rfl, rfl⟩
theorem bgeD8 (d : BitVec 8) : Statement (.bgeD8 d) := ⟨rfl, rfl⟩
theorem bgeD16 (d : BitVec 16) : Statement (.bgeD16 d) := ⟨rfl, rfl⟩
theorem bltD8 (d : BitVec 8) : Statement (.bltD8 d) := ⟨rfl, rfl⟩
theorem bltD16 (d : BitVec 16) : Statement (.bltD16 d) := ⟨rfl, rfl⟩
theorem bgtD8 (d : BitVec 8) : Statement (.bgtD8 d) := ⟨rfl, rfl⟩
theorem bgtD16 (d : BitVec 16) : Statement (.bgtD16 d) := ⟨rfl, rfl⟩
theorem bleD8 (d : BitVec 8) : Statement (.bleD8 d) := ⟨rfl, rfl⟩
theorem bleD16 (d : BitVec 16) : Statement (.bleD16 d) := ⟨rfl, rfl⟩
theorem bsrD8 (d : BitVec 8) : Statement (.bsrD8 d) := ⟨rfl, rfl⟩
theorem bsrD16 (d : BitVec 16) : Statement (.bsrD16 d) := ⟨rfl, rfl⟩
theorem jmpInd (ern : ER) : Statement (.jmpInd ern) := ⟨rfl, rfl⟩
theorem jmpAbs (aa : BitVec 24) : Statement (.jmpAbs aa) := ⟨rfl, rfl⟩
theorem jmpMem (aa : BitVec 8) : Statement (.jmpMem aa) := ⟨rfl, rfl⟩
theorem jsrInd (ern : ER) : Statement (.jsrInd ern) := ⟨rfl, rfl⟩
theorem jsrAbs (aa : BitVec 24) : Statement (.jsrAbs aa) := ⟨rfl, rfl⟩
theorem jsrMem (aa : BitVec 8) : Statement (.jsrMem aa) := ⟨rfl, rfl⟩
theorem rts : Statement (.rts) := ⟨rfl, rfl⟩
theorem trapa (x : BitVec 2) : Statement (.trapa x) := ⟨rfl, rfl⟩
theorem rte : Statement (.rte) := ⟨rfl, rfl⟩
theorem sleep : Statement (.sleep) := ⟨rfl, rfl⟩
theorem nop : Statement (.nop) := ⟨rfl, rfl⟩
theorem ldcImm (imm : BitVec 8) : Statement (.ldcImm imm) := ⟨rfl, rfl⟩
theorem ldcReg (rs : R8) : Statement (.ldcReg rs) := ⟨rfl, rfl⟩
theorem stcReg (rd : R8) : Statement (.stcReg rd) := ⟨rfl, rfl⟩
theorem andc (imm : BitVec 8) : Statement (.andc imm) := ⟨rfl, rfl⟩
theorem orc (imm : BitVec 8) : Statement (.orc imm) := ⟨rfl, rfl⟩
theorem xorc (imm : BitVec 8) : Statement (.xorc imm) := ⟨rfl, rfl⟩
theorem ldcLoadInd (ers : ER) : Statement (.ldcLoadInd ers) := ⟨rfl, rfl⟩
theorem ldcLoadDisp16 (d : BitVec 16) (ers : ER) : Statement (.ldcLoadDisp16 d ers) := ⟨rfl, rfl⟩
theorem ldcLoadDisp24 (d : BitVec 24) (ers : ER) : Statement (.ldcLoadDisp24 d ers) := ⟨rfl, rfl⟩
theorem ldcLoadInc (ers : ER) : Statement (.ldcLoadInc ers) := ⟨rfl, rfl⟩
theorem ldcLoadAbs16 (aa : BitVec 16) : Statement (.ldcLoadAbs16 aa) := ⟨rfl, rfl⟩
theorem ldcLoadAbs24 (aa : BitVec 24) : Statement (.ldcLoadAbs24 aa) := ⟨rfl, rfl⟩
theorem stcStoreInd (erd : ER) : Statement (.stcStoreInd erd) := ⟨rfl, rfl⟩
theorem stcStoreDisp16 (d : BitVec 16) (erd : ER) : Statement (.stcStoreDisp16 d erd) := ⟨rfl, rfl⟩
theorem stcStoreDisp24 (d : BitVec 24) (erd : ER) : Statement (.stcStoreDisp24 d erd) := ⟨rfl, rfl⟩
theorem stcStoreDec (erd : ER) : Statement (.stcStoreDec erd) := ⟨rfl, rfl⟩
theorem stcStoreAbs16 (aa : BitVec 16) : Statement (.stcStoreAbs16 aa) := ⟨rfl, rfl⟩
theorem stcStoreAbs24 (aa : BitVec 24) : Statement (.stcStoreAbs24 aa) := ⟨rfl, rfl⟩
theorem eepmovB : Statement (.eepmovB) := ⟨rfl, rfl⟩
theorem eepmovW : Statement (.eepmovW) := ⟨rfl, rfl⟩

end Sys2Proof.Laws.EncodedLength
end

