-- ==== Sys2Proof/Tests/Slice0.lean ====
section
/-! SUPPORT. Tests: the well-formedness checks, the decoding of every constructor, single steps with the
expected results of spec/95_test_vectors.md, and a witness for the hypotheses of each obligation. -/

namespace Sys2Proof.Tests

open Sys2Proof.Machine

noncomputable section

/-! ### Well-formedness (one ill-formed term for each check) -/

theorem test_wf_movW_load_er7 : (Instr.movWLoadInc .er7 (.r .er0)).wf = false := by decide
theorem test_wf_movL_load_er7 : (Instr.movLLoadInc .er7 .er0).wf = false := by decide
theorem test_wf_movW_store_er7 : (Instr.movWStoreDec (.r .er0) .er7).wf = false := by decide
theorem test_wf_movL_store_er7 : (Instr.movLStoreDec .er0 .er7).wf = false := by decide
theorem test_wf_pop : (Instr.popW (.r .er0)).wf = true := by decide

/-! ### Decoding: one code for each constructor, from its row of the spec's tables -/

/-- Every code decodes to its instruction. -/
def decodes : List (List Byte × Instr) → Bool
  | [] => true
  | (c, i) :: t => decide (decode c = .ok i) && decodes t

theorem test_decode_transfer_1 : decodes [
    ([0x0C, 0xEE], .movBReg (.l .er6) (.l .er6)),
    ([0x0D, 0xE6], .movWReg (.e .er6) (.r .er6)),
    ([0x0F, 0x96], .movLReg .er1 .er6),
    ([0xFF, 0x5F], .movBImm 0x5f#8 (.l .er7)),
    ([0x79, 0x03, 0xE4, 0xA7], .movWImm 0xe4a7#16 (.r .er3)),
    ([0x7A, 0x02, 0x24, 0x4C, 0xAF, 0x9C], .movLImm 0x244caf9c#32 .er2),
    ([0x68, 0x41], .movBLoadInd .er4 (.h .er1)),
    ([0x6E, 0x4C, 0xE7, 0xEE], .movBLoadDisp16 0xe7ee#16 .er4 (.l .er4)),
    ([0x78, 0x50, 0x6A, 0x25, 0x00, 0x07, 0xAE, 0x2D], .movBLoadDisp24 0x7ae2d#24 .er5 (.h .er5)),
    ([0x6C, 0x62], .movBLoadInc .er6 (.h .er2)),
    ([0x21, 0x12], .movBLoadAbs8 0x12#8 (.h .er1)),
    ([0x6A, 0x06, 0x7B, 0xDF], .movBLoadAbs16 0x7bdf#16 (.h .er6))] = true := by decide

theorem test_decode_transfer_2 : decodes [
    ([0x6A, 0x20, 0x00, 0xED, 0x88, 0xD1], .movBLoadAbs24 0xed88d1#24 (.h .er0)),
    ([0x69, 0x2E], .movWLoadInd .er2 (.e .er6)),
    ([0x6F, 0x46, 0x77, 0xA0], .movWLoadDisp16 0x77a0#16 .er4 (.r .er6)),
    ([0x78, 0x50, 0x6B, 0x29, 0x00, 0xFF, 0xE2, 0x44], .movWLoadDisp24 0xffe244#24 .er5 (.e .er1)),
    ([0x6D, 0x02], .movWLoadInc .er0 (.r .er2)),
    ([0x6B, 0x0E, 0x8E, 0x6B], .movWLoadAbs16 0x8e6b#16 (.e .er6)),
    ([0x6B, 0x2D, 0x00, 0x2A, 0x99, 0xA5], .movWLoadAbs24 0x2a99a5#24 (.e .er5)),
    ([0x01, 0x00, 0x69, 0x52], .movLLoadInd .er5 .er2),
    ([0x01, 0x00, 0x6F, 0x26, 0x75, 0x96], .movLLoadDisp16 0x7596#16 .er2 .er6),
    ([0x01, 0x00, 0x78, 0x40, 0x6B, 0x22, 0x00, 0x0F, 0x3B, 0xA4], .movLLoadDisp24 0xf3ba4#24 .er4 .er2),
    ([0x01, 0x00, 0x6D, 0x04], .movLLoadInc .er0 .er4),
    ([0x01, 0x00, 0x6B, 0x06, 0x37, 0x42], .movLLoadAbs16 0x3742#16 .er6)] = true := by decide

theorem test_decode_transfer_3 : decodes [
    ([0x01, 0x00, 0x6B, 0x23, 0x00, 0x37, 0x31, 0xF7], .movLLoadAbs24 0x3731f7#24 .er3),
    ([0x68, 0xE9], .movBStoreInd (.l .er1) .er6),
    ([0x6E, 0xB2, 0x08, 0xA5], .movBStoreDisp16 (.h .er2) 0x8a5#16 .er3),
    ([0x78, 0x60, 0x6A, 0xA0, 0x00, 0x6D, 0x50, 0x17], .movBStoreDisp24 (.h .er0) 0x6d5017#24 .er6),
    ([0x6C, 0x91], .movBStoreDec (.h .er1) .er1),
    ([0x3F, 0xC0], .movBStoreAbs8 (.l .er7) 0xc0#8),
    ([0x6A, 0x8C, 0xD6, 0xEE], .movBStoreAbs16 (.l .er4) 0xd6ee#16),
    ([0x6A, 0xA2, 0x00, 0x65, 0xA0, 0x7F], .movBStoreAbs24 (.h .er2) 0x65a07f#24),
    ([0x69, 0xE8], .movWStoreInd (.e .er0) .er6),
    ([0x6F, 0xA2, 0x9F, 0x56], .movWStoreDisp16 (.r .er2) 0x9f56#16 .er2),
    ([0x78, 0x20, 0x6B, 0xA0, 0x00, 0xD1, 0xF2, 0x31], .movWStoreDisp24 (.r .er0) 0xd1f231#24 .er2),
    ([0x6D, 0xE3], .movWStoreDec (.r .er3) .er6)] = true := by decide

theorem test_decode_transfer_4 : decodes [
    ([0x6B, 0x84, 0x7E, 0x26], .movWStoreAbs16 (.r .er4) 0x7e26#16),
    ([0x6B, 0xA3, 0x00, 0x05, 0x9B, 0xE5], .movWStoreAbs24 (.r .er3) 0x59be5#24),
    ([0x01, 0x00, 0x69, 0x83], .movLStoreInd .er3 .er0),
    ([0x01, 0x00, 0x6F, 0xE3, 0x5A, 0xF8], .movLStoreDisp16 .er3 0x5af8#16 .er6),
    ([0x01, 0x00, 0x78, 0x50, 0x6B, 0xA4, 0x00, 0x60, 0x74, 0x0F], .movLStoreDisp24 .er4 0x60740f#24 .er5),
    ([0x01, 0x00, 0x6D, 0xB4], .movLStoreDec .er4 .er3),
    ([0x01, 0x00, 0x6B, 0x81, 0x43, 0x0E], .movLStoreAbs16 .er1 0x430e#16),
    ([0x01, 0x00, 0x6B, 0xA3, 0x00, 0xC4, 0x7B, 0x1D], .movLStoreAbs24 .er3 0xc47b1d#24),
    ([0x6D, 0x73], .popW (.r .er3)),
    ([0x01, 0x00, 0x6D, 0x76], .popL .er6),
    ([0x6D, 0xFD], .pushW (.e .er5)),
    ([0x01, 0x00, 0x6D, 0xF3], .pushL .er3)] = true := by decide

theorem test_decode_transfer_5 : decodes [
    ([0x6A, 0x40, 0x8A, 0x22], .movfpe 0x8a22#16 (.h .er0)),
    ([0x6A, 0xC9, 0x0A, 0x0D], .movtpe (.l .er1) 0xa0d#16)] = true := by decide

theorem test_decode_addsub_1 : decodes [
    ([0x86, 0x5F], .addBImm 0x5f#8 (.h .er6)),
    ([0x08, 0xC3], .addBReg (.l .er4) (.h .er3)),
    ([0x79, 0x11, 0x4A, 0xEF], .addWImm 0x4aef#16 (.r .er1)),
    ([0x09, 0x6E], .addWReg (.r .er6) (.e .er6)),
    ([0x7A, 0x12, 0x9C, 0x3E, 0xCB, 0x54], .addLImm 0x9c3ecb54#32 .er2),
    ([0x0A, 0xE2], .addLReg .er6 .er2),
    ([0x0B, 0x03], .adds1 .er3),
    ([0x0B, 0x80], .adds2 .er0),
    ([0x0B, 0x90], .adds4 .er0),
    ([0x92, 0x6A], .addxImm 0x6a#8 (.h .er2)),
    ([0x0E, 0x70], .addxReg (.h .er7) (.h .er0)),
    ([0x18, 0xBB], .subBReg (.l .er3) (.l .er3))] = true := by decide

theorem test_decode_addsub_2 : decodes [
    ([0x79, 0x3E, 0x41, 0x23], .subWImm 0x4123#16 (.e .er6)),
    ([0x19, 0xF4], .subWReg (.e .er7) (.r .er4)),
    ([0x7A, 0x36, 0x62, 0xD7, 0x41, 0x45], .subLImm 0x62d74145#32 .er6),
    ([0x1A, 0xD1], .subLReg .er5 .er1),
    ([0x1B, 0x02], .subs1 .er2),
    ([0x1B, 0x81], .subs2 .er1),
    ([0x1B, 0x96], .subs4 .er6),
    ([0xB7, 0x61], .subxImm 0x61#8 (.h .er7)),
    ([0x1E, 0x56], .subxReg (.h .er5) (.h .er6)),
    ([0x0A, 0x0C], .incB (.l .er4)),
    ([0x0B, 0x5F], .incW1 (.e .er7)),
    ([0x0B, 0xD2], .incW2 (.r .er2))] = true := by decide

theorem test_decode_addsub_3 : decodes [
    ([0x0B, 0x73], .incL1 .er3),
    ([0x0B, 0xF0], .incL2 .er0),
    ([0x1A, 0x03], .decB (.h .er3)),
    ([0x1B, 0x53], .decW1 (.r .er3)),
    ([0x1B, 0xD1], .decW2 (.r .er1)),
    ([0x1B, 0x74], .decL1 .er4),
    ([0x1B, 0xF2], .decL2 .er2),
    ([0x0F, 0x07], .daa (.h .er7)),
    ([0x1F, 0x0C], .das (.l .er4))] = true := by decide

theorem test_decode_muldiv_1 : decodes [
    ([0x50, 0x8D], .mulxuB (.l .er0) (.e .er5)),
    ([0x52, 0xF2], .mulxuW (.e .er7) .er2),
    ([0x01, 0xC0, 0x50, 0x52], .mulxsB (.h .er5) (.r .er2)),
    ([0x01, 0xC0, 0x52, 0x41], .mulxsW (.r .er4) .er1),
    ([0x51, 0xF2], .divxuB (.l .er7) (.r .er2)),
    ([0x53, 0x81], .divxuW (.e .er0) .er1),
    ([0x01, 0xD0, 0x51, 0x60], .divxsB (.h .er6) (.r .er0)),
    ([0x01, 0xD0, 0x53, 0x22], .divxsW (.r .er2) .er2),
    ([0xAD, 0xE4], .cmpBImm 0xe4#8 (.l .er5)),
    ([0x1C, 0x71], .cmpBReg (.h .er7) (.h .er1)),
    ([0x79, 0x21, 0x5A, 0x3D], .cmpWImm 0x5a3d#16 (.r .er1)),
    ([0x1D, 0x9B], .cmpWReg (.e .er1) (.e .er3))] = true := by decide

theorem test_decode_muldiv_2 : decodes [
    ([0x7A, 0x24, 0x21, 0xAF, 0x21, 0x4A], .cmpLImm 0x21af214a#32 .er4),
    ([0x1F, 0xA1], .cmpLReg .er2 .er1),
    ([0x17, 0x8E], .negB (.l .er6)),
    ([0x17, 0x9A], .negW (.e .er2)),
    ([0x17, 0xB5], .negL .er5),
    ([0x17, 0xD4], .extsW (.r .er4)),
    ([0x17, 0xF4], .extsL .er4),
    ([0x17, 0x51], .extuW (.r .er1)),
    ([0x17, 0x70], .extuL .er0)] = true := by decide

theorem test_decode_logic_1 : decodes [
    ([0xEF, 0xB7], .andBImm 0xb7#8 (.l .er7)),
    ([0x16, 0x91], .andBReg (.l .er1) (.h .er1)),
    ([0x79, 0x60, 0x26, 0x50], .andWImm 0x2650#16 (.r .er0)),
    ([0x66, 0xF2], .andWReg (.e .er7) (.r .er2)),
    ([0x7A, 0x65, 0x4F, 0xA1, 0xD4, 0x1F], .andLImm 0x4fa1d41f#32 .er5),
    ([0x01, 0xF0, 0x66, 0x10], .andLReg .er1 .er0),
    ([0xC2, 0xE7], .orBImm 0xe7#8 (.h .er2)),
    ([0x14, 0xB1], .orBReg (.l .er3) (.h .er1)),
    ([0x79, 0x44, 0xAE, 0xE8], .orWImm 0xaee8#16 (.r .er4)),
    ([0x64, 0xB2], .orWReg (.e .er3) (.r .er2)),
    ([0x7A, 0x45, 0xDB, 0x77, 0xB9, 0x23], .orLImm 0xdb77b923#32 .er5),
    ([0x01, 0xF0, 0x64, 0x60], .orLReg .er6 .er0)] = true := by decide

theorem test_decode_logic_2 : decodes [
    ([0xDF, 0x07], .xorBImm 0x7#8 (.l .er7)),
    ([0x15, 0xCC], .xorBReg (.l .er4) (.l .er4)),
    ([0x79, 0x50, 0x24, 0xFD], .xorWImm 0x24fd#16 (.r .er0)),
    ([0x65, 0x22], .xorWReg (.r .er2) (.r .er2)),
    ([0x7A, 0x55, 0x54, 0x84, 0xB3, 0xDB], .xorLImm 0x5484b3db#32 .er5),
    ([0x01, 0xF0, 0x65, 0x55], .xorLReg .er5 .er5),
    ([0x17, 0x0E], .notB (.l .er6)),
    ([0x17, 0x1E], .notW (.e .er6)),
    ([0x17, 0x33], .notL .er3)] = true := by decide

theorem test_decode_shift_1 : decodes [
    ([0x10, 0x82], .shalB (.h .er2)),
    ([0x10, 0x90], .shalW (.r .er0)),
    ([0x10, 0xB2], .shalL .er2),
    ([0x11, 0x82], .sharB (.h .er2)),
    ([0x11, 0x9F], .sharW (.e .er7)),
    ([0x11, 0xB0], .sharL .er0),
    ([0x10, 0x07], .shllB (.h .er7)),
    ([0x10, 0x13], .shllW (.r .er3)),
    ([0x10, 0x33], .shllL .er3),
    ([0x11, 0x0F], .shlrB (.l .er7)),
    ([0x11, 0x18], .shlrW (.e .er0)),
    ([0x11, 0x30], .shlrL .er0)] = true := by decide

theorem test_decode_shift_2 : decodes [
    ([0x12, 0x8B], .rotlB (.l .er3)),
    ([0x12, 0x99], .rotlW (.e .er1)),
    ([0x12, 0xB1], .rotlL .er1),
    ([0x13, 0x86], .rotrB (.h .er6)),
    ([0x13, 0x95], .rotrW (.r .er5)),
    ([0x13, 0xB6], .rotrL .er6),
    ([0x12, 0x0A], .rotxlB (.l .er2)),
    ([0x12, 0x1E], .rotxlW (.e .er6)),
    ([0x12, 0x33], .rotxlL .er3),
    ([0x13, 0x07], .rotxrB (.h .er7)),
    ([0x13, 0x1A], .rotxrW (.e .er2)),
    ([0x13, 0x33], .rotxrL .er3)] = true := by decide

theorem test_decode_bits_1 : decodes [
    ([0x70, 0x46], .bsetImmReg 4#3 (.h .er6)),
    ([0x7D, 0x50, 0x70, 0x60], .bsetImmInd 6#3 .er5),
    ([0x7F, 0x66, 0x70, 0x30], .bsetImmAbs 3#3 0x66#8),
    ([0x60, 0xC7], .bsetRnReg (.l .er4) (.h .er7)),
    ([0x7D, 0x40, 0x60, 0xA0], .bsetRnInd (.l .er2) .er4),
    ([0x7F, 0x6B, 0x60, 0x40], .bsetRnAbs (.h .er4) 0x6b#8),
    ([0x72, 0x2F], .bclrImmReg 2#3 (.l .er7)),
    ([0x7D, 0x20, 0x72, 0x00], .bclrImmInd 0#3 .er2),
    ([0x7F, 0x20, 0x72, 0x40], .bclrImmAbs 4#3 0x20#8),
    ([0x62, 0x53], .bclrRnReg (.h .er5) (.h .er3)),
    ([0x7D, 0x30, 0x62, 0xF0], .bclrRnInd (.l .er7) .er3),
    ([0x7F, 0x8C, 0x62, 0x60], .bclrRnAbs (.h .er6) 0x8c#8)] = true := by decide

theorem test_decode_bits_2 : decodes [
    ([0x71, 0x6C], .bnotImmReg 6#3 (.l .er4)),
    ([0x7D, 0x50, 0x71, 0x70], .bnotImmInd 7#3 .er5),
    ([0x7F, 0xA1, 0x71, 0x70], .bnotImmAbs 7#3 0xa1#8),
    ([0x61, 0xA2], .bnotRnReg (.l .er2) (.h .er2)),
    ([0x7D, 0x60, 0x61, 0x10], .bnotRnInd (.h .er1) .er6),
    ([0x7F, 0x8E, 0x61, 0x10], .bnotRnAbs (.h .er1) 0x8e#8),
    ([0x73, 0x4B], .btstImmReg 4#3 (.l .er3)),
    ([0x7C, 0x20, 0x73, 0x00], .btstImmInd 0#3 .er2),
    ([0x7E, 0x45, 0x73, 0x60], .btstImmAbs 6#3 0x45#8),
    ([0x63, 0xE6], .btstRnReg (.l .er6) (.h .er6)),
    ([0x7C, 0x00, 0x63, 0x80], .btstRnInd (.l .er0) .er0),
    ([0x7E, 0x79, 0x63, 0x40], .btstRnAbs (.h .er4) 0x79#8)] = true := by decide

theorem test_decode_bits_3 : decodes [
    ([0x76, 0x03], .bandReg 0#3 (.h .er3)),
    ([0x7C, 0x30, 0x76, 0x10], .bandInd 1#3 .er3),
    ([0x7E, 0xBC, 0x76, 0x10], .bandAbs 1#3 0xbc#8),
    ([0x76, 0xB6], .biandReg 3#3 (.h .er6)),
    ([0x7C, 0x60, 0x76, 0xF0], .biandInd 7#3 .er6),
    ([0x7E, 0x83, 0x76, 0xA0], .biandAbs 2#3 0x83#8),
    ([0x74, 0x0F], .borReg 0#3 (.l .er7)),
    ([0x7C, 0x40, 0x74, 0x00], .borInd 0#3 .er4),
    ([0x7E, 0x5B, 0x74, 0x30], .borAbs 3#3 0x5b#8),
    ([0x74, 0xCB], .biorReg 4#3 (.l .er3)),
    ([0x7C, 0x40, 0x74, 0xA0], .biorInd 2#3 .er4),
    ([0x7E, 0xC9, 0x74, 0xB0], .biorAbs 3#3 0xc9#8)] = true := by decide

theorem test_decode_bits_4 : decodes [
    ([0x75, 0x1D], .bxorReg 1#3 (.l .er5)),
    ([0x7C, 0x50, 0x75, 0x60], .bxorInd 6#3 .er5),
    ([0x7E, 0x42, 0x75, 0x70], .bxorAbs 7#3 0x42#8),
    ([0x75, 0xF6], .bixorReg 7#3 (.h .er6)),
    ([0x7C, 0x50, 0x75, 0x80], .bixorInd 0#3 .er5),
    ([0x7E, 0xC0, 0x75, 0xD0], .bixorAbs 5#3 0xc0#8),
    ([0x77, 0x7A], .bldReg 7#3 (.l .er2)),
    ([0x7C, 0x50, 0x77, 0x30], .bldInd 3#3 .er5),
    ([0x7E, 0x32, 0x77, 0x10], .bldAbs 1#3 0x32#8),
    ([0x77, 0xB7], .bildReg 3#3 (.h .er7)),
    ([0x7C, 0x30, 0x77, 0x90], .bildInd 1#3 .er3),
    ([0x7E, 0x9E, 0x77, 0xD0], .bildAbs 5#3 0x9e#8)] = true := by decide

theorem test_decode_bits_5 : decodes [
    ([0x67, 0x40], .bstReg 4#3 (.h .er0)),
    ([0x7D, 0x20, 0x67, 0x10], .bstInd 1#3 .er2),
    ([0x7F, 0x13, 0x67, 0x70], .bstAbs 7#3 0x13#8),
    ([0x67, 0xDD], .bistReg 5#3 (.l .er5)),
    ([0x7D, 0x60, 0x67, 0xC0], .bistInd 4#3 .er6),
    ([0x7F, 0xF9, 0x67, 0x80], .bistAbs 0#3 0xf9#8)] = true := by decide

theorem test_decode_branch_1 : decodes [
    ([0x40, 0x6F], .braD8 0x6f#8),
    ([0x58, 0x00, 0x20, 0xCC], .braD16 0x20cc#16),
    ([0x41, 0xDB], .brnD8 0xdb#8),
    ([0x58, 0x10, 0x11, 0xF9], .brnD16 0x11f9#16),
    ([0x42, 0x58], .bhiD8 0x58#8),
    ([0x58, 0x20, 0xAB, 0x85], .bhiD16 0xab85#16),
    ([0x43, 0x47], .blsD8 0x47#8),
    ([0x58, 0x30, 0xF0, 0xED], .blsD16 0xf0ed#16),
    ([0x44, 0x4C], .bccD8 0x4c#8),
    ([0x58, 0x40, 0xE1, 0x5D], .bccD16 0xe15d#16),
    ([0x45, 0xFC], .bcsD8 0xfc#8),
    ([0x58, 0x50, 0x2C, 0x0B], .bcsD16 0x2c0b#16)] = true := by decide

theorem test_decode_branch_2 : decodes [
    ([0x46, 0x71], .bneD8 0x71#8),
    ([0x58, 0x60, 0xE0, 0xFB], .bneD16 0xe0fb#16),
    ([0x47, 0x94], .beqD8 0x94#8),
    ([0x58, 0x70, 0x54, 0x25], .beqD16 0x5425#16),
    ([0x48, 0x83], .bvcD8 0x83#8),
    ([0x58, 0x80, 0x9F, 0x96], .bvcD16 0x9f96#16),
    ([0x49, 0xC3], .bvsD8 0xc3#8),
    ([0x58, 0x90, 0x6A, 0x9E], .bvsD16 0x6a9e#16),
    ([0x4A, 0x9B], .bplD8 0x9b#8),
    ([0x58, 0xA0, 0x48, 0x44], .bplD16 0x4844#16),
    ([0x4B, 0x8B], .bmiD8 0x8b#8),
    ([0x58, 0xB0, 0xFE, 0xCB], .bmiD16 0xfecb#16)] = true := by decide

theorem test_decode_branch_3 : decodes [
    ([0x4C, 0x66], .bgeD8 0x66#8),
    ([0x58, 0xC0, 0xD2, 0x79], .bgeD16 0xd279#16),
    ([0x4D, 0x3A], .bltD8 0x3a#8),
    ([0x58, 0xD0, 0x02, 0x86], .bltD16 0x286#16),
    ([0x4E, 0xC1], .bgtD8 0xc1#8),
    ([0x58, 0xE0, 0x0E, 0x35], .bgtD16 0xe35#16),
    ([0x4F, 0x16], .bleD8 0x16#8),
    ([0x58, 0xF0, 0xCD, 0x19], .bleD16 0xcd19#16),
    ([0x55, 0x3E], .bsrD8 0x3e#8),
    ([0x5C, 0x00, 0xFB, 0x69], .bsrD16 0xfb69#16),
    ([0x59, 0x10], .jmpInd .er1),
    ([0x5A, 0x55, 0x63, 0x09], .jmpAbs 0x556309#24)] = true := by decide

theorem test_decode_branch_4 : decodes [
    ([0x5B, 0x21], .jmpMem 0x21#8),
    ([0x5D, 0x70], .jsrInd .er7),
    ([0x5E, 0xD3, 0xDA, 0x32], .jsrAbs 0xd3da32#24),
    ([0x5F, 0xCE], .jsrMem 0xce#8),
    ([0x54, 0x70], .rts)] = true := by decide

theorem test_decode_system_1 : decodes [
    ([0x57, 0x20], .trapa 2#2),
    ([0x56, 0x70], .rte),
    ([0x01, 0x80], .sleep),
    ([0x00, 0x00], .nop),
    ([0x07, 0x7E], .ldcImm 0x7e#8),
    ([0x03, 0x0F], .ldcReg (.l .er7)),
    ([0x02, 0x0F], .stcReg (.l .er7)),
    ([0x06, 0x41], .andc 0x41#8),
    ([0x04, 0xAD], .orc 0xad#8),
    ([0x05, 0xDE], .xorc 0xde#8),
    ([0x01, 0x40, 0x69, 0x60], .ldcLoadInd .er6),
    ([0x01, 0x40, 0x6F, 0x30, 0xA2, 0x69], .ldcLoadDisp16 0xa269#16 .er3)] = true := by decide

theorem test_decode_system_2 : decodes [
    ([0x01, 0x40, 0x78, 0x00, 0x6B, 0x20, 0x00, 0x62, 0x05, 0xF5], .ldcLoadDisp24 0x6205f5#24 .er0),
    ([0x01, 0x40, 0x6D, 0x30], .ldcLoadInc .er3),
    ([0x01, 0x40, 0x6B, 0x00, 0x0F, 0x0F], .ldcLoadAbs16 0xf0f#16),
    ([0x01, 0x40, 0x6B, 0x20, 0x00, 0x85, 0x3B, 0xEA], .ldcLoadAbs24 0x853bea#24),
    ([0x01, 0x40, 0x69, 0x90], .stcStoreInd .er1),
    ([0x01, 0x40, 0x6F, 0xD0, 0x0B, 0xAA], .stcStoreDisp16 0xbaa#16 .er5),
    ([0x01, 0x40, 0x78, 0x00, 0x6B, 0xA0, 0x00, 0x63, 0x61, 0xF0], .stcStoreDisp24 0x6361f0#24 .er0),
    ([0x01, 0x40, 0x6D, 0x90], .stcStoreDec .er1),
    ([0x01, 0x40, 0x6B, 0x80, 0x74, 0x5B], .stcStoreAbs16 0x745b#16),
    ([0x01, 0x40, 0x6B, 0xA0, 0x00, 0x06, 0x0E, 0xF0], .stcStoreAbs24 0x60ef0#24)] = true := by decide

theorem test_decode_block_1 : decodes [
    ([0x7B, 0x5C, 0x59, 0x8F], .eepmovB),
    ([0x7B, 0xD4, 0x59, 0x8F], .eepmovW)] = true := by decide

/-! ### One step each, with the vectors of spec/95_test_vectors.md -/

/-- Bytes put into memory from an address on. -/
def bytesAt (m : Memory) (a : Nat) : List Byte → Memory
  | [] => m
  | b :: t => bytesAt (m.set a b) (a + 1) t

/-- VEC of the test machines: vector 64 for the first pin, vector 7 for NMI. -/
def vectors : VectorNumbers := { listed := [(.external 0, 64), (.nmi, 7)], others := 4 }

/-- A state with code at an address, and CCR, registers and memory as given. -/
def ready (mode : Mode) (pc : Addr) (code : List Byte) (ccr : Byte) (regs : List (ER × Long))
    (mem : List (Nat × List Byte)) : State :=
  let s := { State.reset with
    pc := pc, ccr := ccr, irqInhibit := false, par := { State.reset.par with mode := mode, vec := vectors }
    mem := mem.foldl (fun m c => bytesAt m c.1 c.2) (bytesAt ⟨[], []⟩ pc.toNat code) }
  regs.foldl (fun s r => s.setReg32 r.1 r.2) s

/-- The bytes from an address on. -/
def readsBytes (m : Memory) (a : Nat) : List Byte → Bool
  | [] => true
  | b :: t => decide (m.get a = b) && readsBytes m (a + 1) t

/-- One step leads to this PC, these bits of CCR, these registers and these bytes. -/
def stepsTo (s : State) (pc : Addr) (mask ccr : Byte) (regs : List (ER × Long))
    (mem : List (Nat × List Byte)) : Bool :=
  match step s with
  | .next t =>
    decide (t.pc = pc) && decide (t.ccr &&& mask = ccr) && regs.all (fun r => decide (t.reg32 r.1 = r.2)) &&
      mem.all (fun c => readsBytes t.mem c.1 c.2)
  | _ => false

theorem test_movBReg : stepsTo (ready .advanced 0x100 [0x0C, 0x81] 0xF1 [(.er0, 0x80)] []) 0x102 0xFF 0xF9 [(.er0, 0x80), (.er1, 0x8000)] [] = true := by
  decide
theorem test_movWReg : stepsTo (ready .advanced 0x100 [0x0D, 0xB0] 0xF1 [(.er0, 0x5), (.er3, 0x0)] []) 0x102 0xFF 0xF5 [(.er0, 0x0), (.er3, 0x0)] [] = true := by
  decide
theorem test_movLReg : stepsTo (ready .advanced 0x100 [0x0F, 0x92] 0xF1 [(.er1, 0xFFFF0000)] []) 0x102 0xFF 0xF9 [(.er1, 0xFFFF0000), (.er2, 0xFFFF0000)] [] = true := by
  decide
theorem test_movBImm : stepsTo (ready .advanced 0x100 [0xF0, 0x00] 0xF1 [(.er0, 0x700)] []) 0x102 0xFF 0xF5 [(.er0, 0x0)] [] = true := by
  decide
theorem test_movWImm : stepsTo (ready .advanced 0x100 [0x79, 0x08, 0x80, 0x00] 0xF1 [(.er0, 0x1234)] []) 0x104 0xFF 0xF9 [(.er0, 0x80001234)] [] = true := by
  decide
theorem test_movLImm : stepsTo (ready .advanced 0x100 [0x7A, 0x07, 0x00, 0xFF, 0xFF, 0x00] 0xF1 [] []) 0x106 0xFF 0xF1 [(.er7, 0xFFFF00)] [] = true := by
  decide
theorem test_movBLoadInc : stepsTo (ready .advanced 0x100 [0x6C, 0x18] 0xF1 [(.er1, 0x2000)] [(0x2000, [0x7F])]) 0x102 0xFF 0xF1 [(.er0, 0x7F), (.er1, 0x2001)] [] = true := by
  decide
theorem test_movWLoadInd : stepsTo (ready .advanced 0x100 [0x69, 0x23] 0xF1 [(.er2, 0xFF00)] [(0xFF00, [0x12, 0x34])]) 0x102 0xFF 0xF1 [(.er2, 0xFF00), (.er3, 0x1234)] [] = true := by
  decide
theorem test_movWLoadInd_odd : stepsTo (ready .advanced 0x100 [0x69, 0x23] 0xF1 [(.er2, 0xFF01)] [(0xFF00, [0x12, 0x34])]) 0x102 0xFF 0xF1 [(.er2, 0xFF01), (.er3, 0x1234)] [] = true := by
  decide
theorem test_movLLoadInd : stepsTo (ready .advanced 0x100 [0x01, 0x00, 0x69, 0x01] 0xF1 [(.er0, 0x1000)] [(0x1000, [0x80, 0x00, 0x00, 0x01])]) 0x104 0xFF 0xF9 [(.er0, 0x1000), (.er1, 0x80000001)] [] = true := by
  decide
theorem test_movBStoreDec : stepsTo (ready .advanced 0x100 [0x6C, 0x99] 0xF1 [(.er1, 0x100)] []) 0x102 0xFF 0xF9 [(.er1, 0xFF)] [(0xFF, [0xFF])] = true := by
  decide
theorem test_movWStoreDec : stepsTo (ready .advanced 0x100 [0x6D, 0xE6] 0xF1 [(.er6, 0xFFFF00)] []) 0x102 0xFF 0xF9 [(.er6, 0xFFFEFE)] [(0xFFFEFE, [0xFE, 0xFE])] = true := by
  decide
theorem test_pushW_r7 : stepsTo (ready .advanced 0x100 [0x6D, 0xF7] 0xF1 [(.er7, 0xFFFF00)] []) 0x102 0xFF 0xF9 [(.er7, 0xFFFEFE)] [(0xFFFEFE, [0xFE, 0xFE])] = true := by
  decide
theorem test_movLStoreInd : stepsTo (ready .advanced 0x100 [0x01, 0x00, 0x69, 0x90] 0xF1 [(.er0, 0x12345678), (.er1, 0x2000)] []) 0x104 0xFF 0xF1 [(.er0, 0x12345678), (.er1, 0x2000)] [(0x2000, [0x12, 0x34, 0x56, 0x78])] = true := by
  decide
theorem test_movBLoadAbs8 : stepsTo (ready .advanced 0x100 [0x28, 0x10] 0xF1 [] [(0xFFFF10, [0x01])]) 0x102 0xFF 0xF1 [(.er0, 0x1)] [] = true := by
  decide
theorem test_movBLoadAbs8_normal : stepsTo (ready .normal 0x100 [0x28, 0x10] 0xF1 [] [(0xFF10, [0x01])]) 0x102 0xFF 0xF1 [(.er0, 0x1)] [] = true := by
  decide
theorem test_movBStoreAbs16 : stepsTo (ready .advanced 0x100 [0x6A, 0x88, 0x80, 0x00] 0xF1 [(.er0, 0x81)] []) 0x104 0xFF 0xF9 [(.er0, 0x81)] [(0xFF8000, [0x81])] = true := by
  decide
theorem test_movWLoadDisp16 : stepsTo (ready .advanced 0x100 [0x6F, 0x10, 0xFF, 0xFE] 0xF1 [(.er1, 0x1002)] [(0x1000, [0x80, 0x01])]) 0x104 0xFF 0xF9 [(.er0, 0x8001), (.er1, 0x1002)] [] = true := by
  decide
theorem test_movBLoadInc_alias : stepsTo (ready .advanced 0x100 [0x6C, 0x08] 0xF1 [(.er0, 0x1000)] [(0x1000, [0xAA])]) 0x102 0xFF 0xF9 [(.er0, 0x10AA)] [] = true := by
  decide
theorem test_movBLoadDisp24 : stepsTo (ready .advanced 0x100 [0x78, 0x10, 0x6A, 0x28, 0x00, 0x00, 0x12, 0x34] 0xF1 [(.er1, 0x100)] [(0x1334, [0x55])]) 0x108 0xFF 0xF1 [(.er0, 0x55), (.er1, 0x100)] [] = true := by
  decide
theorem test_movLLoadDisp24 : stepsTo (ready .advanced 0x100 [0x01, 0x00, 0x78, 0x10, 0x6B, 0x20, 0x00, 0x00, 0x12, 0x34] 0xF1 [(.er1, 0xFFFFFFFC)] [(0x1230, [0x80, 0x00, 0x00, 0x00])]) 0x10A 0xFF 0xF9 [(.er0, 0x80000000), (.er1, 0xFFFFFFFC)] [] = true := by
  decide
theorem test_popW : stepsTo (ready .advanced 0x100 [0x6D, 0x70] 0xF1 [(.er7, 0xFFFEFE)] [(0xFFFEFE, [0xAB, 0xCD])]) 0x102 0xFF 0xF9 [(.er0, 0xABCD), (.er7, 0xFFFF00)] [] = true := by
  decide
theorem test_popL : stepsTo (ready .advanced 0x100 [0x01, 0x00, 0x6D, 0x73] 0xF1 [(.er7, 0xFFFEFC)] [(0xFFFEFC, [0x00, 0x01, 0x02, 0x03])]) 0x104 0xFF 0xF1 [(.er3, 0x10203), (.er7, 0xFFFF00)] [] = true := by
  decide
theorem test_pushW : stepsTo (ready .advanced 0x100 [0x6D, 0xF9] 0xF1 [(.er1, 0x8000), (.er7, 0xFFFF00)] []) 0x102 0xFF 0xF5 [(.er1, 0x8000), (.er7, 0xFFFEFE)] [(0xFFFEFE, [0x00, 0x00])] = true := by
  decide
theorem test_pushL : stepsTo (ready .advanced 0x100 [0x01, 0x00, 0x6D, 0xF7] 0xF1 [(.er7, 0xFFFF00)] []) 0x104 0xFF 0xF1 [(.er7, 0xFFFEFC)] [(0xFFFEFC, [0x00, 0xFF, 0xFE, 0xFC])] = true := by
  decide
theorem test_movfpe : stepsTo (ready .advanced 0x100 [0x6A, 0x4A, 0xFF, 0xF0] 0xF1 [(.er2, 0x5)] []) 0x104 0xFF 0xF5 [(.er2, 0x0)] [] = true := by
  decide
theorem test_movtpe : stepsTo (ready .advanced 0x100 [0x6A, 0xC0, 0xFF, 0xF2] 0xF1 [(.er0, 0x8100)] []) 0x104 0xFF 0xF9 [(.er0, 0x8100)] [(0xFFFFF2, [0x81])] = true := by
  decide
theorem test_addBImm : stepsTo (ready .advanced 0x100 [0x88, 0x01] 0xF1 [(.er0, 0x7F)] []) 0x102 0xFF 0xFA [(.er0, 0x80)] [] = true := by
  decide
theorem test_addBReg : stepsTo (ready .advanced 0x100 [0x08, 0x91] 0xF1 [(.er1, 0xFF01)] []) 0x102 0xFF 0xF5 [(.er1, 0x1)] [] = true := by
  decide
theorem test_addBReg_v : stepsTo (ready .advanced 0x100 [0x08, 0x80] 0xF1 [(.er0, 0x8080)] []) 0x102 0xFF 0xD7 [(.er0, 0x80)] [] = true := by
  decide
theorem test_addWImm : stepsTo (ready .advanced 0x100 [0x79, 0x10, 0x00, 0x01] 0xF1 [(.er0, 0xFFF)] []) 0x104 0xFF 0xF0 [(.er0, 0x1000)] [] = true := by
  decide
theorem test_addWReg : stepsTo (ready .advanced 0x100 [0x09, 0x10] 0xF1 [(.er0, 0x7FFF), (.er1, 0x7FFF)] []) 0x102 0xFF 0xFA [(.er0, 0xFFFE), (.er1, 0x7FFF)] [] = true := by
  decide
theorem test_addLReg : stepsTo (ready .advanced 0x100 [0x0A, 0x90] 0xF1 [(.er0, 0xFFFFFFFF), (.er1, 0x1)] []) 0x102 0xFF 0xF5 [(.er0, 0x0), (.er1, 0x1)] [] = true := by
  decide
theorem test_adds4 : stepsTo (ready .advanced 0x100 [0x0B, 0x97] 0xF1 [(.er7, 0xFFFFFC)] []) 0x102 0xFF 0xF1 [(.er7, 0x1000000)] [] = true := by
  decide
theorem test_adds1 : stepsTo (ready .advanced 0x100 [0x0B, 0x00] 0xF1 [(.er0, 0xFFFFFFFF)] []) 0x102 0xFF 0xF1 [(.er0, 0x0)] [] = true := by
  decide
theorem test_adds2 : stepsTo (ready .advanced 0x100 [0x0B, 0x81] 0xF1 [(.er1, 0xFFFF)] []) 0x102 0xFF 0xF1 [(.er1, 0x10001)] [] = true := by
  decide
theorem test_addxImm : stepsTo (ready .advanced 0x100 [0x98, 0x00] 0xF5 [(.er0, 0xFF)] []) 0x102 0xFF 0xF5 [(.er0, 0x0)] [] = true := by
  decide
theorem test_addxImm_z : stepsTo (ready .advanced 0x100 [0x98, 0x00] 0xF1 [(.er0, 0xFF)] []) 0x102 0xFF 0xF1 [(.er0, 0x0)] [] = true := by
  decide
theorem test_addxReg : stepsTo (ready .advanced 0x100 [0x0E, 0x98] 0xF4 [(.er0, 0x1), (.er1, 0x1)] []) 0x102 0xFF 0xD0 [(.er0, 0x2), (.er1, 0x1)] [] = true := by
  decide
theorem test_subBReg : stepsTo (ready .advanced 0x100 [0x18, 0x80] 0xF1 [(.er0, 0x1)] []) 0x102 0xFF 0xF9 [(.er0, 0xFF01)] [] = true := by
  decide
theorem test_subBReg_v : stepsTo (ready .advanced 0x100 [0x18, 0x80] 0xF1 [(.er0, 0x8001)] []) 0x102 0xFF 0xF2 [(.er0, 0x7F01)] [] = true := by
  decide
theorem test_subWImm : stepsTo (ready .advanced 0x100 [0x79, 0x31, 0x00, 0x01] 0xF1 [(.er1, 0x1000)] []) 0x104 0xFF 0xF0 [(.er1, 0xFFF)] [] = true := by
  decide
theorem test_subLImm : stepsTo (ready .advanced 0x100 [0x7A, 0x32, 0x00, 0x00, 0x00, 0x01] 0xF1 [(.er2, 0x0)] []) 0x106 0xFF 0xF9 [(.er2, 0xFFFFFFFF)] [] = true := by
  decide
theorem test_subs1 : stepsTo (ready .advanced 0x100 [0x1B, 0x00] 0xF1 [(.er0, 0x0)] []) 0x102 0xFF 0xF1 [(.er0, 0xFFFFFFFF)] [] = true := by
  decide
theorem test_subxImm : stepsTo (ready .advanced 0x100 [0xB8, 0x00] 0xF5 [(.er0, 0x0)] []) 0x102 0xFF 0xF9 [(.er0, 0xFF)] [] = true := by
  decide
theorem test_subxReg : stepsTo (ready .advanced 0x100 [0x1E, 0x98] 0xF5 [(.er0, 0x10), (.er1, 0xF)] []) 0x102 0xFF 0xF4 [(.er0, 0x0), (.er1, 0xF)] [] = true := by
  decide
theorem test_incB : stepsTo (ready .advanced 0x100 [0x0A, 0x08] 0xF1 [(.er0, 0xFF)] []) 0x102 0xFF 0xF5 [(.er0, 0x0)] [] = true := by
  decide
theorem test_incB_v : stepsTo (ready .advanced 0x100 [0x0A, 0x08] 0xF1 [(.er0, 0x7F)] []) 0x102 0xFF 0xFB [(.er0, 0x80)] [] = true := by
  decide
theorem test_incW2 : stepsTo (ready .advanced 0x100 [0x0B, 0xD8] 0xF1 [(.er0, 0x7FFE0000)] []) 0x102 0xFF 0xFB [(.er0, 0x80000000)] [] = true := by
  decide
theorem test_incL1 : stepsTo (ready .advanced 0x100 [0x0B, 0x71] 0xF1 [(.er1, 0xFFFFFFFF)] []) 0x102 0xFF 0xF5 [(.er1, 0x0)] [] = true := by
  decide
theorem test_decB : stepsTo (ready .advanced 0x100 [0x1A, 0x02] 0xF1 [(.er2, 0x100)] []) 0x102 0xFF 0xF5 [(.er2, 0x0)] [] = true := by
  decide
theorem test_decB_v : stepsTo (ready .advanced 0x100 [0x1A, 0x02] 0xF1 [(.er2, 0x8000)] []) 0x102 0xFF 0xF3 [(.er2, 0x7F00)] [] = true := by
  decide
theorem test_decW2 : stepsTo (ready .advanced 0x100 [0x1B, 0xD3] 0xF1 [(.er3, 0x8001)] []) 0x102 0xFF 0xF3 [(.er3, 0x7FFF)] [] = true := by
  decide
theorem test_decL1 : stepsTo (ready .advanced 0x100 [0x1B, 0x74] 0xF1 [(.er4, 0x0)] []) 0x102 0xFF 0xF9 [(.er4, 0xFFFFFFFF)] [] = true := by
  decide
theorem test_mulxuB : stepsTo (ready .advanced 0x100 [0x50, 0x81] 0xF1 [(.er0, 0xFF), (.er1, 0x12FF)] []) 0x102 0xFF 0xF1 [(.er0, 0xFF), (.er1, 0xFE01)] [] = true := by
  decide
theorem test_mulxuW : stepsTo (ready .advanced 0x100 [0x52, 0xA2] 0xF1 [(.er2, 0xABCD0003)] []) 0x102 0xFF 0xF1 [(.er2, 0x20367)] [] = true := by
  decide
theorem test_mulxsB : stepsTo (ready .advanced 0x100 [0x01, 0xC0, 0x50, 0x10] 0xF1 [(.er0, 0xFF), (.er1, 0x200)] []) 0x104 0xFF 0xF9 [(.er0, 0xFFFE), (.er1, 0x200)] [] = true := by
  decide
theorem test_mulxsW : stepsTo (ready .advanced 0x100 [0x01, 0xC0, 0x52, 0x01] 0xF1 [(.er0, 0x8000), (.er1, 0x8000)] []) 0x104 0xFF 0xF1 [(.er0, 0x8000), (.er1, 0x40000000)] [] = true := by
  decide
theorem test_divxuB : stepsTo (ready .advanced 0x100 [0x51, 0x81] 0xF1 [(.er0, 0x7), (.er1, 0x64)] []) 0x102 0xFF 0xF1 [(.er0, 0x7), (.er1, 0x20E)] [] = true := by
  decide
theorem test_divxuB_n : stepsTo (ready .advanced 0x100 [0x51, 0x81] 0xF1 [(.er0, 0x80), (.er1, 0x1)] []) 0x102 0xFF 0xF9 [(.er0, 0x80), (.er1, 0x100)] [] = true := by
  decide
theorem test_divxuW : stepsTo (ready .advanced 0x100 [0x53, 0x01] 0xF1 [(.er0, 0x3), (.er1, 0x10000)] []) 0x102 0xFF 0xF1 [(.er0, 0x3), (.er1, 0x15555)] [] = true := by
  decide
theorem test_divxsB : stepsTo (ready .advanced 0x100 [0x01, 0xD0, 0x51, 0x81] 0xF1 [(.er0, 0x7), (.er1, 0xFF9C)] []) 0x104 0xFF 0xF9 [(.er0, 0x7), (.er1, 0xFEF2)] [] = true := by
  decide
theorem test_divxsW : stepsTo (ready .advanced 0x100 [0x01, 0xD0, 0x53, 0x02] 0xF1 [(.er0, 0xFFFE), (.er2, 0x7)] []) 0x104 0xFF 0xF9 [(.er0, 0xFFFE), (.er2, 0x1FFFD)] [] = true := by
  decide
theorem test_cmpBImm : stepsTo (ready .advanced 0x100 [0xA8, 0x05] 0xF1 [(.er0, 0x5)] []) 0x102 0xFF 0xD4 [(.er0, 0x5)] [] = true := by
  decide
theorem test_cmpWReg : stepsTo (ready .advanced 0x100 [0x1D, 0x21] 0xF1 [(.er1, 0x0), (.er2, 0x1)] []) 0x102 0xFF 0xF9 [(.er1, 0x0), (.er2, 0x1)] [] = true := by
  decide
theorem test_cmpLImm : stepsTo (ready .advanced 0x100 [0x7A, 0x20, 0x00, 0x00, 0x00, 0x01] 0xF1 [(.er0, 0x80000000)] []) 0x106 0xFF 0xF2 [(.er0, 0x80000000)] [] = true := by
  decide
theorem test_negB : stepsTo (ready .advanced 0x100 [0x17, 0x88] 0xF1 [(.er0, 0x1)] []) 0x102 0xFF 0xF9 [(.er0, 0xFF)] [] = true := by
  decide
theorem test_negB_v : stepsTo (ready .advanced 0x100 [0x17, 0x88] 0xF1 [(.er0, 0x80)] []) 0x102 0xFF 0xDB [(.er0, 0x80)] [] = true := by
  decide
theorem test_negW : stepsTo (ready .advanced 0x100 [0x17, 0x91] 0xF1 [(.er1, 0x1000)] []) 0x102 0xFF 0xD9 [(.er1, 0xF000)] [] = true := by
  decide
theorem test_negL : stepsTo (ready .advanced 0x100 [0x17, 0xB3] 0xF1 [(.er3, 0x1)] []) 0x102 0xFF 0xF9 [(.er3, 0xFFFFFFFF)] [] = true := by
  decide
theorem test_extsW : stepsTo (ready .advanced 0x100 [0x17, 0xD0] 0xF1 [(.er0, 0x1280)] []) 0x102 0xFF 0xF9 [(.er0, 0xFF80)] [] = true := by
  decide
theorem test_extsL : stepsTo (ready .advanced 0x100 [0x17, 0xF1] 0xF1 [(.er1, 0xFFFF7FFF)] []) 0x102 0xFF 0xF1 [(.er1, 0x7FFF)] [] = true := by
  decide
theorem test_extuW : stepsTo (ready .advanced 0x100 [0x17, 0x52] 0xF1 [(.er2, 0xFF00)] []) 0x102 0xFF 0xF5 [(.er2, 0x0)] [] = true := by
  decide
theorem test_extuL : stepsTo (ready .advanced 0x100 [0x17, 0x72] 0xF1 [(.er2, 0x12348000)] []) 0x102 0xFF 0xF1 [(.er2, 0x8000)] [] = true := by
  decide
theorem test_andBImm : stepsTo (ready .advanced 0x100 [0xE8, 0x0F] 0xF1 [(.er0, 0xF5)] []) 0x102 0xFF 0xF1 [(.er0, 0x5)] [] = true := by
  decide
theorem test_andWReg : stepsTo (ready .advanced 0x100 [0x66, 0x21] 0xF1 [(.er1, 0x8001), (.er2, 0x8000)] []) 0x102 0xFF 0xF9 [(.er1, 0x8000), (.er2, 0x8000)] [] = true := by
  decide
theorem test_andLImm : stepsTo (ready .advanced 0x100 [0x7A, 0x60, 0x00, 0x00, 0xFF, 0xFF] 0xF1 [(.er0, 0x12345678)] []) 0x106 0xFF 0xF1 [(.er0, 0x5678)] [] = true := by
  decide
theorem test_andLReg : stepsTo (ready .advanced 0x100 [0x01, 0xF0, 0x66, 0x10] 0xF1 [(.er0, 0xF0F0F0F0), (.er1, 0xF0F0F0F)] []) 0x104 0xFF 0xF5 [(.er0, 0x0), (.er1, 0xF0F0F0F)] [] = true := by
  decide
theorem test_orBImm : stepsTo (ready .advanced 0x100 [0xC0, 0x00] 0xF1 [(.er0, 0x0)] []) 0x102 0xFF 0xF5 [(.er0, 0x0)] [] = true := by
  decide
theorem test_orWImm : stepsTo (ready .advanced 0x100 [0x79, 0x48, 0x80, 0x00] 0xF1 [(.er0, 0xF000000)] []) 0x104 0xFF 0xF9 [(.er0, 0x8F000000)] [] = true := by
  decide
theorem test_orLReg : stepsTo (ready .advanced 0x100 [0x01, 0xF0, 0x64, 0x21] 0xF1 [(.er1, 0x0), (.er2, 0x0)] []) 0x104 0xFF 0xF5 [(.er1, 0x0), (.er2, 0x0)] [] = true := by
  decide
theorem test_xorBImm : stepsTo (ready .advanced 0x100 [0xDB, 0xFF] 0xF1 [(.er3, 0xAA)] []) 0x102 0xFF 0xF1 [(.er3, 0x55)] [] = true := by
  decide
theorem test_xorWReg : stepsTo (ready .advanced 0x100 [0x65, 0x44] 0xF1 [(.er4, 0x1234)] []) 0x102 0xFF 0xF5 [(.er4, 0x0)] [] = true := by
  decide
theorem test_xorLImm : stepsTo (ready .advanced 0x100 [0x7A, 0x55, 0xFF, 0xFF, 0xFF, 0xFF] 0xF1 [(.er5, 0x7FFFFFFF)] []) 0x106 0xFF 0xF9 [(.er5, 0x80000000)] [] = true := by
  decide
theorem test_notB : stepsTo (ready .advanced 0x100 [0x17, 0x08] 0xF1 [(.er0, 0xFF)] []) 0x102 0xFF 0xF5 [(.er0, 0x0)] [] = true := by
  decide
theorem test_notW : stepsTo (ready .advanced 0x100 [0x17, 0x19] 0xF1 [(.er1, 0xFF0000)] []) 0x102 0xFF 0xF9 [(.er1, 0xFF000000)] [] = true := by
  decide
theorem test_notL : stepsTo (ready .advanced 0x100 [0x17, 0x36] 0xF1 [(.er6, 0x0)] []) 0x102 0xFF 0xF9 [(.er6, 0xFFFFFFFF)] [] = true := by
  decide
theorem test_shalB : stepsTo (ready .advanced 0x100 [0x10, 0x88] 0xF1 [(.er0, 0x40)] []) 0x102 0xFF 0xFA [(.er0, 0x80)] [] = true := by
  decide
theorem test_shalB_c : stepsTo (ready .advanced 0x100 [0x10, 0x88] 0xF1 [(.er0, 0xC0)] []) 0x102 0xFF 0xF9 [(.er0, 0x80)] [] = true := by
  decide
theorem test_shalW : stepsTo (ready .advanced 0x100 [0x10, 0x91] 0xF1 [(.er1, 0x3FFF)] []) 0x102 0xFF 0xF0 [(.er1, 0x7FFE)] [] = true := by
  decide
theorem test_sharB : stepsTo (ready .advanced 0x100 [0x11, 0x80] 0xF1 [(.er0, 0x8100)] []) 0x102 0xFF 0xF9 [(.er0, 0xC000)] [] = true := by
  decide
theorem test_sharW : stepsTo (ready .advanced 0x100 [0x11, 0x9B] 0xF1 [(.er3, 0x80000000)] []) 0x102 0xFF 0xF8 [(.er3, 0xC0000000)] [] = true := by
  decide
theorem test_sharL : stepsTo (ready .advanced 0x100 [0x11, 0xB4] 0xF1 [(.er4, 0x7FFFFFFF)] []) 0x102 0xFF 0xF1 [(.er4, 0x3FFFFFFF)] [] = true := by
  decide
theorem test_shllB : stepsTo (ready .advanced 0x100 [0x10, 0x08] 0xF1 [(.er0, 0x40)] []) 0x102 0xFF 0xF8 [(.er0, 0x80)] [] = true := by
  decide
theorem test_shllW : stepsTo (ready .advanced 0x100 [0x10, 0x12] 0xF1 [(.er2, 0x8000)] []) 0x102 0xFF 0xF5 [(.er2, 0x0)] [] = true := by
  decide
theorem test_shllL : stepsTo (ready .advanced 0x100 [0x10, 0x30] 0xF1 [(.er0, 0x40000000)] []) 0x102 0xFF 0xF8 [(.er0, 0x80000000)] [] = true := by
  decide
theorem test_shlrB : stepsTo (ready .advanced 0x100 [0x11, 0x08] 0xF1 [(.er0, 0x81)] []) 0x102 0xFF 0xF1 [(.er0, 0x40)] [] = true := by
  decide
theorem test_shlrL : stepsTo (ready .advanced 0x100 [0x11, 0x37] 0xF1 [(.er7, 0x80000000)] []) 0x102 0xFF 0xF0 [(.er7, 0x40000000)] [] = true := by
  decide
theorem test_rotlB : stepsTo (ready .advanced 0x100 [0x12, 0x88] 0xF1 [(.er0, 0x81)] []) 0x102 0xFF 0xF1 [(.er0, 0x3)] [] = true := by
  decide
theorem test_rotlL : stepsTo (ready .advanced 0x100 [0x12, 0xB1] 0xF1 [(.er1, 0x80000000)] []) 0x102 0xFF 0xF1 [(.er1, 0x1)] [] = true := by
  decide
theorem test_rotrB : stepsTo (ready .advanced 0x100 [0x13, 0x88] 0xF1 [(.er0, 0x1)] []) 0x102 0xFF 0xF9 [(.er0, 0x80)] [] = true := by
  decide
theorem test_rotrW : stepsTo (ready .advanced 0x100 [0x13, 0x91] 0xF1 [(.er1, 0x2)] []) 0x102 0xFF 0xF0 [(.er1, 0x1)] [] = true := by
  decide
theorem test_rotxlB : stepsTo (ready .advanced 0x100 [0x12, 0x08] 0xF0 [(.er0, 0x80)] []) 0x102 0xFF 0xF5 [(.er0, 0x0)] [] = true := by
  decide
theorem test_rotxlL : stepsTo (ready .advanced 0x100 [0x12, 0x33] 0xF1 [(.er3, 0x7FFFFFFF)] []) 0x102 0xFF 0xF8 [(.er3, 0xFFFFFFFF)] [] = true := by
  decide
theorem test_rotxrB : stepsTo (ready .advanced 0x100 [0x13, 0x08] 0xF1 [(.er0, 0x0)] []) 0x102 0xFF 0xF8 [(.er0, 0x80)] [] = true := by
  decide
theorem test_rotxrW : stepsTo (ready .advanced 0x100 [0x13, 0x15] 0xF1 [(.er5, 0xFFFE)] []) 0x102 0xFF 0xF8 [(.er5, 0xFFFF)] [] = true := by
  decide
theorem test_bsetImmReg : stepsTo (ready .advanced 0x100 [0x70, 0x78] 0xF1 [(.er0, 0x0)] []) 0x102 0xFF 0xF1 [(.er0, 0x80)] [] = true := by
  decide
theorem test_bsetRnReg : stepsTo (ready .advanced 0x100 [0x60, 0x92] 0xF1 [(.er1, 0xFB), (.er2, 0x0)] []) 0x102 0xFF 0xF1 [(.er1, 0xFB), (.er2, 0x800)] [] = true := by
  decide
theorem test_bsetImmAbs : stepsTo (ready .advanced 0x100 [0x7F, 0xC7, 0x70, 0x00] 0xF1 [] [(0xFFFFC7, [0x01])]) 0x104 0xFF 0xF1 [] [(0xFFFFC7, [0x01])] = true := by
  decide
theorem test_bclrRnReg : stepsTo (ready .advanced 0x100 [0x62, 0xA1] 0xF1 [(.er1, 0xFF00), (.er2, 0xB)] []) 0x102 0xFF 0xF1 [(.er1, 0xF700), (.er2, 0xB)] [] = true := by
  decide
theorem test_bnotImmInd : stepsTo (ready .advanced 0x100 [0x7D, 0x30, 0x71, 0x00] 0xF1 [(.er3, 0xFFEE00)] [(0xFFEE00, [0x55])]) 0x104 0xFF 0xF1 [(.er3, 0xFFEE00)] [(0xFFEE00, [0x54])] = true := by
  decide
theorem test_btstImmReg : stepsTo (ready .advanced 0x100 [0x73, 0x69] 0xF1 [(.er1, 0x40)] []) 0x102 0xFF 0xF1 [(.er1, 0x40)] [] = true := by
  decide
theorem test_btstImmReg_z : stepsTo (ready .advanced 0x100 [0x73, 0x49] 0xF1 [(.er1, 0x40)] []) 0x102 0xFF 0xF5 [(.er1, 0x40)] [] = true := by
  decide
theorem test_btstRnInd : stepsTo (ready .advanced 0x100 [0x7C, 0x10, 0x63, 0x80] 0xF1 [(.er0, 0x7), (.er1, 0x2000)] [(0x2000, [0x7F])]) 0x104 0xFF 0xF5 [(.er0, 0x7), (.er1, 0x2000)] [] = true := by
  decide
theorem test_bandReg : stepsTo (ready .advanced 0x100 [0x76, 0x00] 0xF1 [(.er0, 0xFE00)] []) 0x102 0xFF 0xF0 [(.er0, 0xFE00)] [] = true := by
  decide
theorem test_biandReg : stepsTo (ready .advanced 0x100 [0x76, 0x80] 0xF1 [(.er0, 0xFE00)] []) 0x102 0xFF 0xF1 [(.er0, 0xFE00)] [] = true := by
  decide
theorem test_borReg : stepsTo (ready .advanced 0x100 [0x74, 0x4A] 0xF0 [(.er2, 0x10)] []) 0x102 0xFF 0xF1 [(.er2, 0x10)] [] = true := by
  decide
theorem test_biorReg : stepsTo (ready .advanced 0x100 [0x74, 0xCA] 0xF0 [(.er2, 0x10)] []) 0x102 0xFF 0xF0 [(.er2, 0x10)] [] = true := by
  decide
theorem test_bxorReg : stepsTo (ready .advanced 0x100 [0x75, 0x13] 0xF1 [(.er3, 0x200)] []) 0x102 0xFF 0xF0 [(.er3, 0x200)] [] = true := by
  decide
theorem test_bixorReg : stepsTo (ready .advanced 0x100 [0x75, 0x93] 0xF1 [(.er3, 0x200)] []) 0x102 0xFF 0xF1 [(.er3, 0x200)] [] = true := by
  decide
theorem test_bldAbs : stepsTo (ready .advanced 0x100 [0x7E, 0x02, 0x77, 0x50] 0xF0 [] [(0xFFFF02, [0x20])]) 0x104 0xFF 0xF1 [] [(0xFFFF02, [0x20])] = true := by
  decide
theorem test_bildReg : stepsTo (ready .advanced 0x100 [0x77, 0x8C] 0xF1 [(.er4, 0x1)] []) 0x102 0xFF 0xF0 [(.er4, 0x1)] [] = true := by
  decide
theorem test_bstReg : stepsTo (ready .advanced 0x100 [0x67, 0x38] 0xF1 [(.er0, 0x0)] []) 0x102 0xFF 0xF1 [(.er0, 0x8)] [] = true := by
  decide
theorem test_bistReg : stepsTo (ready .advanced 0x100 [0x67, 0xB8] 0xF1 [(.er0, 0xFF)] []) 0x102 0xFF 0xF1 [(.er0, 0xF7)] [] = true := by
  decide
theorem test_bstAbs : stepsTo (ready .advanced 0x100 [0x7F, 0x10, 0x67, 0x00] 0xF0 [] [(0xFFFF10, [0xFF])]) 0x104 0xFF 0xF0 [] [(0xFFFF10, [0xFE])] = true := by
  decide
theorem test_bneD8 : stepsTo (ready .advanced 0x100 [0x46, 0xFE] 0xF1 [] []) 0x100 0xFF 0xF1 [] [] = true := by
  decide
theorem test_bneD8_not : stepsTo (ready .advanced 0x100 [0x46, 0xFE] 0xF5 [] []) 0x102 0xFF 0xF5 [] [] = true := by
  decide
theorem test_braD8_odd : stepsTo (ready .advanced 0x100 [0x40, 0x7F] 0xF1 [] []) 0x180 0xFF 0xF1 [] [] = true := by
  decide
theorem test_beqD8 : stepsTo (ready .advanced 0x1000 [0x47, 0x10] 0xF5 [] []) 0x1012 0xFF 0xF5 [] [] = true := by
  decide
theorem test_braD16 : stepsTo (ready .advanced 0x2000 [0x58, 0x00, 0xFF, 0xFC] 0xF1 [] []) 0x2000 0xFF 0xF1 [] [] = true := by
  decide
theorem test_bltD16 : stepsTo (ready .advanced 0x200 [0x58, 0xD0, 0x01, 0x00] 0xF9 [] []) 0x304 0xFF 0xF9 [] [] = true := by
  decide
theorem test_braD8_normal : stepsTo (ready .normal 0xFFFE [0x40, 0x02] 0xF1 [] []) 0x2 0xFF 0xF1 [] [] = true := by
  decide
theorem test_jmpInd : stepsTo (ready .advanced 0x100 [0x59, 0x20] 0xF1 [(.er2, 0x12345678)] []) 0x345678 0xFF 0xF1 [(.er2, 0x12345678)] [] = true := by
  decide
theorem test_jmpInd_normal : stepsTo (ready .normal 0x100 [0x59, 0x20] 0xF1 [(.er2, 0x12345678)] []) 0x5678 0xFF 0xF1 [(.er2, 0x12345678)] [] = true := by
  decide
theorem test_jmpAbs : stepsTo (ready .advanced 0x100 [0x5A, 0x00, 0x10, 0x00] 0xF1 [] []) 0x1000 0xFF 0xF1 [] [] = true := by
  decide
theorem test_jmpMem : stepsTo (ready .advanced 0x100 [0x5B, 0x30] 0xF1 [] [(0x30, [0x00, 0x01, 0x23, 0x44])]) 0x12344 0xFF 0xF1 [] [] = true := by
  decide
theorem test_jmpMem_normal : stepsTo (ready .normal 0x100 [0x5B, 0x30] 0xF1 [] [(0x30, [0x23, 0x44])]) 0x2344 0xFF 0xF1 [] [] = true := by
  decide
theorem test_bsrD8 : stepsTo (ready .advanced 0x10A [0x55, 0x04] 0xF1 [(.er7, 0xFFFF00)] []) 0x110 0xFF 0xF1 [(.er7, 0xFFFEFC)] [(0xFFFEFD, [0x00, 0x01, 0x0C])] = true := by
  decide
theorem test_bsrD8_normal : stepsTo (ready .normal 0x10A [0x55, 0x04] 0xF1 [(.er7, 0xFFFF00)] []) 0x110 0xFF 0xF1 [(.er7, 0xFFFEFE)] [(0xFEFE, [0x01, 0x0C])] = true := by
  decide
theorem test_jsrInd : stepsTo (ready .advanced 0x200 [0x5D, 0x00] 0xF1 [(.er0, 0x4000), (.er7, 0xFFFF00)] []) 0x4000 0xFF 0xF1 [(.er0, 0x4000), (.er7, 0xFFFEFC)] [(0xFFFEFD, [0x00, 0x02, 0x02])] = true := by
  decide
theorem test_jsrAbs : stepsTo (ready .advanced 0x200 [0x5E, 0x12, 0x34, 0x56] 0xF1 [(.er7, 0xFFFF00)] []) 0x123456 0xFF 0xF1 [(.er7, 0xFFFEFC)] [(0xFFFEFD, [0x00, 0x02, 0x04])] = true := by
  decide
theorem test_rts : stepsTo (ready .advanced 0x100 [0x54, 0x70] 0xF1 [(.er7, 0xFFFEFC)] [(0xFFFEFC, [0x55, 0x00, 0x01, 0x0C])]) 0x10C 0xFF 0xF1 [(.er7, 0xFFFF00)] [] = true := by
  decide
theorem test_ldcImm : stepsTo (ready .advanced 0x100 [0x07, 0x80] 0xF1 [] []) 0x102 0xFF 0x80 [] [] = true := by
  decide
theorem test_ldcReg : stepsTo (ready .advanced 0x100 [0x03, 0x08] 0xF1 [(.er0, 0x2A)] []) 0x102 0xFF 0x2A [(.er0, 0x2A)] [] = true := by
  decide
theorem test_stcReg : stepsTo (ready .advanced 0x100 [0x02, 0x08] 0x85 [] []) 0x102 0xFF 0x85 [(.er0, 0x85)] [] = true := by
  decide
theorem test_andc : stepsTo (ready .advanced 0x100 [0x06, 0x7F] 0xFF [] []) 0x102 0xFF 0x7F [] [] = true := by
  decide
theorem test_orc : stepsTo (ready .advanced 0x100 [0x04, 0x80] 0x00 [] []) 0x102 0xFF 0x80 [] [] = true := by
  decide
theorem test_xorc : stepsTo (ready .advanced 0x100 [0x05, 0x01] 0x01 [] []) 0x102 0xFF 0x00 [] [] = true := by
  decide
theorem test_ldcLoadInd : stepsTo (ready .advanced 0x100 [0x01, 0x40, 0x69, 0x00] 0xF1 [(.er0, 0x2000)] [(0x2000, [0x85, 0xFF])]) 0x104 0xFF 0x85 [(.er0, 0x2000)] [] = true := by
  decide
theorem test_stcStoreDec : stepsTo (ready .advanced 0x100 [0x01, 0x40, 0x6D, 0xF0] 0x81 [(.er7, 0xFFFF00)] []) 0x104 0xFF 0x81 [(.er7, 0xFFFEFE)] [(0xFFFEFE, [0x81])] = true := by
  decide
theorem test_ldcLoadInc : stepsTo (ready .advanced 0x100 [0x01, 0x40, 0x6D, 0x70] 0xF1 [(.er7, 0xFFFEFE)] [(0xFFFEFE, [0x81])]) 0x104 0xFF 0x81 [(.er7, 0xFFFF00)] [] = true := by
  decide
theorem test_nop : stepsTo (ready .advanced 0x100 [0x00, 0x00] 0xF1 [] []) 0x102 0xFF 0xF1 [] [] = true := by
  decide
theorem test_trapa : stepsTo (ready .advanced 0x108 [0x57, 0x20] 0x00 [(.er7, 0xFFFF00)] [(0x28, [0x00, 0x00, 0x02, 0x00])]) 0x200 0xFF 0x80 [(.er7, 0xFFFEFC)] [(0xFFFEFC, [0x00, 0x00, 0x01, 0x0A])] = true := by
  decide
theorem test_trapa_normal : stepsTo (ready .normal 0x108 [0x57, 0x00] 0x05 [(.er7, 0xFFFF00)] [(0x10, [0x02, 0x00])]) 0x200 0xFF 0x85 [(.er7, 0xFFFEFC)] [(0xFEFC, [0x05, 0x05, 0x01, 0x0A])] = true := by
  decide
theorem test_rte : stepsTo (ready .advanced 0x100 [0x56, 0x70] 0xF1 [(.er7, 0xFFFEFC)] [(0xFFFEFC, [0x00, 0x00, 0x01, 0x0A])]) 0x10A 0xFF 0x00 [(.er7, 0xFFFF00)] [] = true := by
  decide
theorem test_eepmovB : stepsTo (ready .advanced 0x100 [0x7B, 0x5C, 0x59, 0x8F] 0xF1 [(.er4, 0x903), (.er5, 0x1000), (.er6, 0x2000)] [(0x1000, [0x11, 0x22, 0x33])]) 0x104 0xFF 0xF1 [(.er4, 0x900), (.er5, 0x1003), (.er6, 0x2003)] [(0x2000, [0x11, 0x22, 0x33])] = true := by
  decide
theorem test_eepmovB_overlap : stepsTo (ready .advanced 0x100 [0x7B, 0x5C, 0x59, 0x8F] 0xF1 [(.er4, 0x3), (.er5, 0x1000), (.er6, 0x1001)] [(0x1000, [0xAA, 0x01, 0x02, 0x03])]) 0x104 0xFF 0xF1 [(.er4, 0x0), (.er5, 0x1003), (.er6, 0x1004)] [(0x1000, [0xAA, 0xAA, 0xAA, 0xAA])] = true := by
  decide
theorem test_eepmovW : stepsTo (ready .advanced 0x100 [0x7B, 0xD4, 0x59, 0x8F] 0xF1 [(.er4, 0x2), (.er5, 0x1000), (.er6, 0x2000)] [(0x1000, [0x11, 0x22])]) 0x104 0xFF 0xF1 [(.er4, 0x0), (.er5, 0x1002), (.er6, 0x2002)] [(0x2000, [0x11, 0x22])] = true := by
  decide

/-- The table rows of DAA and DAS, one vector each (spec/95_test_vectors.md S6). -/
theorem test_daaRow : daaRow false false 0x42 = some (0x00, false) ∧ daaRow false false 0x3C = some (0x06, false) ∧
    daaRow false true 0x32 = some (0x06, false) ∧ daaRow false false 0xA5 = some (0x60, true) ∧
    daaRow false false 0x9A = some (0x66, true) ∧ daaRow false true 0xB2 = some (0x66, true) ∧
    daaRow true false 0x13 = some (0x60, true) ∧ daaRow true false 0x2C = some (0x66, true) ∧
    daaRow true true 0x32 = some (0x66, true) ∧ daaRow true false 0x00 = some (0x60, true) ∧
    daaRow false true 0x3A = none := by decide

theorem test_dasRow : dasRow false false 0x27 = some (0x00, false) ∧ dasRow false true 0x2D = some (0xFA, false) ∧
    dasRow true false 0xD3 = some (0xA0, true) ∧ dasRow true true 0x7F = some (0x9A, true) ∧
    dasRow false false 0x2D = none := by decide

/-- One step leads to these registers. -/
def stepsToRegs (s : State) (regs : List (ER × Long)) : Bool :=
  match step s with
  | .next t => regs.all fun r => decide (t.reg32 r.1 = r.2)
  | _ => false

theorem test_daa : stepsToRegs (ready .advanced 0x100 [0x0F, 0x08] 0x01 [(.er0, 0x2C)] []) [(.er0, 0x92)] = true := by
  decide
theorem test_das : stepsToRegs (ready .advanced 0x100 [0x1F, 0x08] 0x20 [(.er0, 0x2D)] []) [(.er0, 0x27)] = true := by
  decide
/-- The flags of the source's table do not stop a run on open data: DIVXU.B by zero completes. -/
theorem test_divxuB_zero : stepsToRegs (ready .advanced 0x100 [0x51, 0x81] 0 [(.er0, 0), (.er1, 0x64)] [])
    [(.er0, 0)] = true := by decide
theorem test_sleep : (match step (ready .advanced 0x400 [0x01, 0x80] 0 [] []) with
    | .next t => decide (t.pstate = .sleep ∧ t.pc = 0x402) | _ => false) = true := by decide

/-! ### State counts: the two worked examples of R732 -/

theorem test_states_bset : (cyclesOf (.bsetImmAbs 0 0xC7) .advanced 0).states (.external16in3 1) (.external16in3 1)
    (.external16in3 1) .peripheral8 .peripheral8 = 14 := by decide
theorem test_states_jsr : (cyclesOf (.jsrMem 0x30) .advanced 0).states (.external16in3 1) (.external16in3 1)
    (.external16in3 1) .peripheral8 .peripheral8 = 24 := by decide


/-! ### Event traces of spec/95_test_vectors.md, one step each -/

/-- A request of the first pin, with vector 64. -/
def irq : Request := { source := .external 0, passesUi := false }

/-- An NMI, with vector 7. -/
def nmi : Request := { source := .nmi, passesUi := false }

/-- A request of a module. -/
def ofModule : Request := { source := .internal 0, passesUi := false }

/-- T1 step 4: the request is accepted, with frame, I and PC as the trace has them. -/
theorem test_trace_interrupt :
    stepsTo { ready .advanced 0x204 [0x00, 0x00] 0x00 [(.er7, 0xFFFF00)] [(0x100, [0x00, 0x00, 0x03, 0x00])] with
      host := [.request irq] } 0x300 0xFF 0x80 [(.er7, 0xFFFEFC)] [(0xFFFEFC, [0x00, 0x00, 0x02, 0x04])] = true := by
  decide

/-- T1 step 2: after ANDC the boundary is skipped, and the NOP runs. -/
theorem test_trace_inhibit :
    stepsTo { ready .advanced 0x202 [0x00, 0x00] 0x00 [(.er7, 0xFFFF00)] [] with
      host := [.request irq], irqInhibit := true } 0x204 0xFF 0x00 [(.er7, 0xFFFF00)] [] = true := by decide

/-- T3: a request wakes a sleeping CPU. -/
theorem test_trace_wake :
    stepsTo { ready .advanced 0x402 [] 0x00 [(.er7, 0xFFFF00)] [(0x100, [0x00, 0x00, 0x03, 0x00])] with
      host := [.request irq], pstate := .sleep } 0x300 0xFF 0x80 [(.er7, 0xFFFEFC)]
      [(0xFFFEFC, [0x00, 0x00, 0x04, 0x02])] = true := by decide

/-- T4 steps 1 and 2: an NMI after the second byte of EEPMOV.W. -/
theorem test_trace_block_nmi :
    stepsTo { ready .advanced 0x500 [0x7B, 0xD4, 0x59, 0x8F] 0x80
        [(.er4, 4), (.er5, 0x1000), (.er6, 0x2000), (.er7, 0xFFFF00)]
        [(0x1000, [1, 2, 3, 4]), (28, [0x00, 0x00, 0x06, 0x00])] with host := [.nmiDuringBlock 2] }
      0x600 0xFF 0x80 [(.er4, 2), (.er5, 0x1002), (.er6, 0x2002), (.er7, 0xFFFEFC)]
      [(0x2000, [1, 2, 0]), (0xFFFEFC, [0x80, 0x00, 0x05, 0x04])] = true := by decide

/-- T5: the end of reset exception handling; an odd start address loses its bit 0. -/
theorem test_trace_reset :
    (match step { ready .advanced 0 [0x55, 0x00, 0x01, 0x01] 0x80 [] [] with pstate := .exceptionHandling } with
      | .next t => decide (t.pc = 0x100 ∧ t.pstate = .programExecution ∧ t.irqInhibit = true)
      | _ => false) = true := by decide

/-! ### The cycles of Table 2.10 at a device from H'000400 on (R89, R90), the latest first -/

/-- A machine with a device at H'000400 to H'0004FF. -/
def withDevice (pc : Addr) (code : List Byte) (regs : List (ER × Long)) : State :=
  let s := ready .advanced pc code 0 regs []
  { s with par := { s.par with memMap := [{ base := 0x400, size := 0x100, kind := .device }] } }

/-- The transcript after a step. -/
def busAfter (s : State) : List BusCycle :=
  match step s with
  | .next t => t.bus
  | _ => []

/-- R505: `R:W NEXT`; the word read is held. -/
theorem test_bus_nop : busAfter (withDevice 0x3FE [0x00, 0x00] []) = [.readWord 0x400] ∧
    (match step (withDevice 0x3FE [0x00, 0x00] []) with
      | .next t => t.prefetch.isSome
      | _ => false) = true := by decide

/-- R208: `R:W NEXT`, `R:W EA`; the fetch and the read of one address are two draws. -/
theorem test_bus_load : busAfter (withDevice 0x3FE [0x69, 0x10] [(.er1, 0x400)]) = [.readWord 0x400, .readWord 0x400] ∧
    (match step (withDevice 0x3FE [0x69, 0x10] [(.er1, 0x400)]) with
      | .next t => decide (t.draws = 3)
      | _ => false) = true := by decide

/-- R423: `R:W 2nd`, `R:B EA`, `R:W NEXT`, `W:B EA`. -/
theorem test_bus_bset : (match busAfter (withDevice 0x3FC [0x7D, 0x10, 0x70, 0x00] [(.er1, 0x480)]) with
    | [.writeByte w _, .readWord n, .readByte r] => decide (w = 0x480 ∧ n = 0x400 ∧ r = 0x480)
    | _ => false) = true := by decide

/-- R472: `R:W NEXT`, `R:W EA`, taken (BRA) or not (BRN). -/
theorem test_bus_branch : busAfter (withDevice 0x3FE [0x40, 0x10] []) = [.readWord 0x410, .readWord 0x400] ∧
    busAfter (withDevice 0x3FE [0x41, 0x10] []) = [.readWord 0x410, .readWord 0x400] := by decide

/-- R474, advanced mode: `R:W NEXT`, `R:W EA`, `W:W stack(H)`, `W:W stack(L)`. -/
theorem test_bus_bsr : (match busAfter (withDevice 0x3FE [0x55, 0x10] [(.er7, 0x484)]) with
    | [.writeWord l v, .writeWord h _, .readWord e, .readWord n] =>
      decide (l = 0x482 ∧ v = 0x400 ∧ h = 0x480 ∧ e = 0x410 ∧ n = 0x400)
    | _ => false) = true := by decide

/-- R610, note *6: an interrupt reads PC + 2 first; from sleep it does not. -/
theorem test_bus_interrupt : busAfter { withDevice 0x3FE [] [(.er7, 0x2000)] with host := [.request nmi] } = [.readWord 0x400] ∧
    busAfter { withDevice 0x3FE [] [(.er7, 0x2000)] with host := [.request nmi], pstate := .sleep } = [] := by decide

/-! ### A witness for the hypotheses of each obligation that has some -/

/-- The step or instruction completes. -/
def completes : Result → Bool
  | .next _ => true
  | _ => false

/-- An empty machine in advanced mode. -/
def blank : State := ready .advanced 0x100 [] 0 [] []

theorem test_hyp_InvariantKept : State.reset.Inv ∧ completes (step State.reset) = true :=
  ⟨⟨by decide, by unfold State.PcFormed; decide⟩, by decide⟩

theorem test_hyp_ParametersFixed : completes (step blank) = true ∧ blank.host.head? ≠ some (.setSsby true) := by decide

theorem test_hyp_RoundTrip : (Instr.movWLoadInc .er6 (.e .er7)).wf = true := by decide

theorem test_hyp_DecodeEncode : decode [0x6D, 0x6F, 0xA5] = .ok (.movWLoadInc .er6 (.e .er7)) := by decide

theorem test_hyp_LengthFromLeadingBytes : decodeCode 0x01 0x40 [0x6D, 0x70] = some (.ldcLoadInc .er7) ∧
    decodeCode 0x78 0x10 [0x6A, 0x28, 0x00, 0x00, 0x12, 0x34] = some (.movBLoadDisp24 0x1234 .er1 (.l .er0)) := by
  decide

/-- Clause by clause, at the first or last value of each range. -/
theorem test_hyp_UnassignedCodes : (0x01#8 ≠ 0) ∧ hi 0x10#8 ≠ 0 ∧
    (0x13#8 ∈ [0x10#8, 0x11#8, 0x12#8, 0x13#8] ∧ hi 0x20#8 ∈ [2#4, 4#4]) ∧
    (hi 0xBF#8 ∈ [3#4, 11#4] ∧ (lo 0xBF#8).getLsbD 3 = true) ∧ lo 0x01#8 ≠ 0 ∧
    ([0x5C#8, 0x59#8, 0x8E#8] ≠ [0x5C#8, 0x59#8, 0x8F#8] ∧ [0x5C#8, 0x59#8, 0x8E#8] ≠ [0xD4#8, 0x59#8, 0x8F#8]) ∧
    (0x67#8 ∉ [0x64#8, 0x65#8, 0x66#8] ∨ (0x00#8).getLsbD 7 = true ∨ (0x00#8).getLsbD 3 = true) ∧
    (0x64#8 ∉ [0x64#8, 0x65#8, 0x66#8] ∨ (0x88#8).getLsbD 7 = true ∨ (0x88#8).getLsbD 3 = true) ∧
    (0x66#8 ∉ [0x64#8, 0x65#8, 0x66#8] ∨ (0x08#8).getLsbD 7 = true ∨ (0x08#8).getLsbD 3 = true) := by decide

/-- A state whose code is not assigned. -/
def unassigned : State := ready .advanced 0x100 [0x57, 0x31] 0 [] []

theorem test_hyp_UnassignedCodes_step : unassigned.pstate = .programExecution ∧
    unassigned.respond (unassigned.host.headD .idle) = none ∧
    decode unassigned.fetchBytes = .error .unassigned := by decide

/-- A state at ADD.B #1,R0L. -/
def atAdd : State := ready .advanced 0x100 [0x88, 0x01] 0 [(.er0, 0x7F)] []

theorem test_hyp_StepRunsInstruction : atAdd.pstate = .programExecution ∧
    atAdd.respond (atAdd.host.headD .idle) = none ∧ decode atAdd.fetchBytes = .ok (.addBImm 1 (.l .er0)) ∧
    (Instr.addBImm 1 (.l .er0)).wf = true ∧ completes (exec (.addBImm 1 (.l .er0)) (atAdd.started (.addBImm 1 (.l .er0)))) = true := by decide

/-- The premises within: NEXT read first and held by exec's next state, and read after exec by a jump. -/
theorem test_hyp_StepRunsInstruction_within : atAdd.AllMemory ∧ (nextRead (.addBImm 1 (.l .er0))).held = true ∧
    (match exec (.addBImm 1 (.l .er0)) (atAdd.started (.addBImm 1 (.l .er0))) with
      | .next t => decide (t.prefetch ≠ none)
      | _ => false) = true ∧
    (match exec (.jmpAbs 0x200) (atAdd.started (.jmpAbs 0x200)) with
      | .next t => decide (t.prefetch = none)
      | _ => false) = true := ⟨rfl, by decide, by decide, by decide⟩

/-- A state at MOVFPE without an E clock. -/
def noClock : State :=
  { ready .advanced 0x100 [0x6A, 0x4A, 0xFF, 0xF0] 0 [] [] with
    par := { State.reset.par with hasEclock := false } }

theorem test_hyp_StepRunsInstruction_refused : noClock.pstate = .programExecution ∧
    noClock.respond (noClock.host.headD .idle) = none ∧
    decode noClock.fetchBytes = .ok (.movfpe 0xFFF0 (.l .er2)) ∧ (Instr.movfpe 0xFFF0 (.l .er2)).wf = true ∧
    completes (exec (.movfpe 0xFFF0 (.l .er2)) (noClock.started (.movfpe 0xFFF0 (.l .er2)))) = false := by decide

theorem test_hyp_FetchBytesInOrder : blank.AllMemory ∧ blank.prefetch = none ∧ blank.PcFormed ∧ 9 < 10 ∧
    { blank with prefetch := some 0 }.prefetch = some (blank.loadW blank.pc) :=
  ⟨rfl, rfl, by unfold State.PcFormed; decide, by decide, by decide⟩

/-- A state at MOV.W R0,@ER1 that stores over the instruction that follows. -/
def overwriting : State := ready .advanced 0x100 [0x69, 0x90, 0x00, 0x00] 0 [(.er0, 0x40FE), (.er1, 0x102)] []

/-- A state at MOV.W R0,@ER1 that stores elsewhere. -/
def storing : State := ready .advanced 0x100 [0x69, 0x90] 0 [(.er0, 0x40FE), (.er1, 0x2000)] []

theorem test_hyp_StoreToNextWordNotSeen : overwriting.AllMemory ∧ overwriting.pstate = .programExecution ∧
    overwriting.respond (overwriting.host.headD .idle) = none ∧ decode overwriting.fetchBytes = .ok (.movWStoreInd (.r .er0) .er1) ∧
    completes (step overwriting) = true ∧ overwriting.wordAddr (low24 (overwriting.reg32 .er1)) = 0x102 :=
  ⟨rfl, by decide, by decide, by decide, by decide, by decide⟩

theorem test_hyp_StoreToNextWordNotSeen_elsewhere : storing.AllMemory ∧ storing.pstate = .programExecution ∧
    storing.respond (storing.host.headD .idle) = none ∧ decode storing.fetchBytes = .ok (.movWStoreInd (.r .er0) .er1) ∧
    completes (step storing) = true ∧ storing.wordAddr (low24 (storing.reg32 .er1)) ≠ 0x102 :=
  ⟨rfl, by decide, by decide, by decide, by decide, by decide⟩

theorem test_hyp_StoreToNextWordNotSeen_kinds : readsAhead (.bsetImmInd 0 .er1) = true ∧
    readsAhead (.stcStoreDec .er1) = true ∧ readsAhead .eepmovW = false ∧ readsAhead (.jsrInd .er1) = false := by decide

/-- A host entry without effect, a masked request, is among the steps the statement covers. -/
theorem test_hyp_StoreToNextWordNotSeen_masked :
    let s := { storing with ccr := 0x80, host := [.request irq] }
    s.respond (s.host.headD .idle) = none ∧ decode s.fetchBytes = .ok (.movWStoreInd (.r .er0) .er1) := by decide

/-- The overwritten word still runs as it was: NOP and not BRA to itself. -/
theorem test_prefetch : (match step overwriting with
    | .next t => decide (t.firstWord = 0 ∧ t.loadW t.pc = 0x40FE)
    | _ => false) = true := by decide

theorem test_hyp_EveryInstructionCompletes : blank.par.hasEclock = true ∧ noClock.par.hasEclock = false ∧
    ∀ (aa : BitVec 16) (r : R8), Instr.nop ≠ .movfpe aa r ∧ Instr.nop ≠ .movtpe r aa :=
  ⟨by decide, by decide, fun _ _ => ⟨by simp, by simp⟩⟩

theorem test_hyp_AllMemory : blank.AllMemory ∧ (ready .normal 0x100 [] 0 [] []).AllMemory := ⟨rfl, rfl⟩

theorem test_hyp_EffectiveAddresses : ER.er7 ≠ ER.er0 := by decide

theorem test_hyp_LoadByte_StoreByte : blank.par.hasEclock = true := by decide

/-- A state with a byte in R0L and with C and H. -/
def decimal (b : Long) (ccr : Byte) : State := ready .advanced 0x100 [] ccr [(.er0, b)] []

/-- C, H and the two digits of R0L. -/
def digits (s : State) : Bool × Bool × Nat × Nat :=
  (s.flag .c, s.flag .h, (s.reg8 (.l .er0)).toNat / 16, (s.reg8 (.l .er0)).toNat % 16)

/-- One state for each row of the table of DAA, at an end of its ranges. -/
theorem test_hyp_DecimalTables_daa : digits (decimal 0x99 0x00) = (false, false, 9, 9) ∧
    digits (decimal 0x8A 0x00) = (false, false, 8, 10) ∧ digits (decimal 0x93 0x20) = (false, true, 9, 3) ∧
    digits (decimal 0xA9 0x00) = (false, false, 10, 9) ∧ digits (decimal 0x9A 0x00) = (false, false, 9, 10) ∧
    digits (decimal 0xA3 0x20) = (false, true, 10, 3) ∧ digits (decimal 0x29 0x01) = (true, false, 2, 9) ∧
    digits (decimal 0x2A 0x01) = (true, false, 2, 10) ∧ digits (decimal 0x33 0x21) = (true, true, 3, 3) := by decide

/-- One state for each row of the table of DAS, at an end of its ranges. -/
theorem test_hyp_DecimalTables_das : digits (decimal 0x99 0x00) = (false, false, 9, 9) ∧
    digits (decimal 0x86 0x20) = (false, true, 8, 6) ∧ digits (decimal 0x79 0x01) = (true, false, 7, 9) ∧
    digits (decimal 0x66 0x21) = (true, true, 6, 6) := by decide

theorem test_hyp_DecimalArithmetic : IsDecimal ((decimal 0x9900 0x01).reg8 (.h .er0)) ∧
    IsDecimal ((decimal 0x9900 0x01).reg8 (.l .er0)) ∧ IsDecimal 0x99 :=
  ⟨by unfold IsDecimal; decide, by unfold IsDecimal; decide, by unfold IsDecimal; decide⟩

/-- The largest quotients: 255 of DIVXU.B, 65535 of DIVXU.W. -/
theorem test_hyp_DivideResults_unsigned :
    let s := ready .advanced 0x100 [] 0 [(.er0, 0x0002), (.er1, 0x01FF), (.er2, 0x0001FFFF)] []
    (s.reg8 (.l .er0)).toNat ≠ 0 ∧ (s.reg16 (.r .er1)).toNat / (s.reg8 (.l .er0)).toNat < 2 ^ 8 ∧
      (s.reg16 (.r .er0)).toNat ≠ 0 ∧ (s.reg32 .er2).toNat / (s.reg16 (.r .er0)).toNat < 2 ^ 16 := by decide

/-- The least quotients: -128 of DIVXS.B, -32768 of DIVXS.W. -/
theorem test_hyp_DivideResults_signed :
    let s := ready .advanced 0x100 [] 0 [(.er0, 0x0002), (.er1, 0xFF00), (.er2, 0xFFFF0000)] []
    (s.reg8 (.l .er0)).toInt ≠ 0 ∧ -2 ^ 7 ≤ (s.reg16 (.r .er1)).toInt.tdiv (s.reg8 (.l .er0)).toInt ∧
      (s.reg16 (.r .er1)).toInt.tdiv (s.reg8 (.l .er0)).toInt < 2 ^ 7 ∧
      (s.reg16 (.r .er0)).toInt ≠ 0 ∧ -2 ^ 15 ≤ (s.reg32 .er2).toInt.tdiv (s.reg16 (.r .er0)).toInt ∧
      (s.reg32 .er2).toInt.tdiv (s.reg16 (.r .er0)).toInt < 2 ^ 15 := by decide

theorem test_hyp_CallReturns : blank.AllMemory ∧ ∃ d, Instr.bsrD8 4 = .bsrD8 d := ⟨rfl, 4, rfl⟩

theorem test_hyp_TrapReturns : blank.AllMemory ∧ blank.PcFormed := ⟨rfl, by unfold State.PcFormed; decide⟩

/-- The blank machine in a processing state, with CCR and what the host does. -/
def during (p : PState) (ccr : Byte) (host : List HostEvent) : State :=
  { blank with pstate := p, ccr := ccr, host := host }

/-- Asleep with I = 1 and masked requests still to come, and in software standby with requests of a module. -/
theorem test_hyp_SleepStates : (during .sleep 0x80 [.idle, .request irq]).Quiescent ∧
    (during .sleep 0x80 [.idle, .request irq]).host.head? ≠ some .busRequest ∧
    (during .softwareStandby 0 [.request ofModule]).Quiescent ∧
    (during .softwareStandby 0 [.request ofModule]).host.head? ≠ some .busRequest := by
  refine ⟨⟨.inl rfl, fun e h => ?_⟩, by decide, ⟨.inr rfl, fun e h => ?_⟩, by decide⟩
  · rcases List.mem_cons.1 h with rfl | h
    · exact id
    · rw [List.mem_singleton.1 h]; unfold Wakes Samples Unmasked; decide
  · rw [List.mem_singleton.1 h]; unfold Wakes Samples Unmasked; decide

/-- An NMI to come wakes the CPU: it is not quiescent. -/
theorem test_quiescent_nmi : ¬(during .sleep 0x80 [.idle, .request nmi]).Quiescent := by
  intro h
  exact h.2 (.request nmi) (by decide) ⟨.inr (.inl rfl), .inl rfl⟩

theorem test_hyp_InterruptInhibit :
    let s := { during .programExecution 0 [.request nmi] with irqInhibit := true }
    s.pstate = .programExecution ∧ s.irqInhibit = true ∧ s.host = .request nmi :: [] ∧
      (during .exceptionHandling 0 []).pstate = .exceptionHandling ∧ (during .exceptionHandling 0 []).host = [] ∧
      (during .exceptionHandling 0 [.request nmi]).host = .request nmi :: [] := by
  decide

theorem test_hyp_BlockTransferWords : ∀ k rest, (during .programExecution 0 []).host = .nmiDuringBlock k :: rest →
    k = 0 ∨ ((during .programExecution 0 []).reg16 (.r .er4)).toNat < k := by
  intro k rest h; cases h

/-- At both ends: an NMI during the first and during the last byte. -/
theorem test_hyp_BlockTransferWords_nmi :
    let s := fun k => { ready .advanced 0x500 [] 0x80 [(.er4, 4)] [] with host := [.nmiDuringBlock k] }
    (s 1).host = .nmiDuringBlock 1 :: [] ∧ 1 ≤ ((s 1).reg16 (.r .er4)).toNat ∧
      (s 4).host = .nmiDuringBlock 4 :: [] ∧ 4 ≤ ((s 4).reg16 (.r .er4)).toNat := by decide

/-- A running CPU with I = 0, a sleeping CPU with I = 1 and an NMI, and software standby with an NMI. -/
theorem test_hyp_InterruptAccepted :
    (Samples (during .programExecution 0 [.request irq]) irq ∧ Unmasked (during .programExecution 0 [.request irq]) irq) ∧
    (Samples (during .sleep 0x80 [.request nmi]) nmi ∧ Unmasked (during .sleep 0x80 [.request nmi]) nmi) ∧
    (Samples (during .softwareStandby 0x80 [.request nmi]) nmi ∧
      Unmasked (during .softwareStandby 0x80 [.request nmi]) nmi) := by
  unfold Samples Unmasked; decide

/-- UI as a mask bit: a request that passes with I = 1 and UI = 0. -/
theorem test_hyp_InterruptAccepted_ui :
    let s := { during .programExecution 0x80 [.request { irq with passesUi := true }] with
      par := { State.reset.par with uiIsMask := true } }
    Samples s { irq with passesUi := true } ∧ Unmasked s { irq with passesUi := true } := by
  unfold Samples Unmasked; decide

theorem test_hyp_InterruptMasked_internal : (during .softwareStandby 0 [.request ofModule]).host = .request ofModule :: [] ∧
    ofModule.source = .internal 0 ∧ (during .softwareStandby 0 [.request ofModule]).pstate = .softwareStandby := by decide

theorem test_hyp_InterruptMasked : ¬Unmasked (during .programExecution 0x80 [.request irq]) irq ∧
    ¬Unmasked (during .sleep 0x80 [.request irq]) irq ∧ ¬Unmasked (during .softwareStandby 0x80 [.request irq]) irq := by
  unfold Unmasked; decide

theorem test_hyp_ResetSequence : (during .sleep 0 [.resLow]).pstate ≠ .hardwareStandby ∧
    (during .sleep 0 [.resLow]).host = .resLow :: [] ∧
    ((during .reset 0x80 []).pstate = .reset ∧ (during .reset 0x80 []).host.head? = none) ∧
    ((during .reset 0x80 [.resHigh]).host = .resHigh :: [] ∧ (during .reset 0x80 [.resHigh]).pstate = .reset) ∧
    ((during .exceptionHandling 0x80 []).pstate = .exceptionHandling ∧
      (during .exceptionHandling 0x80 []).host.head? = none) := by decide

/-- An NMI in the reset state and during reset exception handling is among the entries these clauses cover. -/
theorem test_hyp_ResetSequence_nmi : (during .reset 0x80 [.request nmi]).pstate = .reset ∧
    (during .exceptionHandling 0x80 [.request nmi]).pstate = .exceptionHandling ∧
    HostEvent.request nmi ∉ [.resLow, .resHigh, .stbyLow] ∧
    HostEvent.request nmi ∉ [.resLow, .stbyLow, .busRequest] ∧
    (∀ b, HostEvent.request nmi ≠ .setSsby b) := by decide

/-- The premises within the last clause of ResetSequence. -/
theorem test_hyp_ResetSequence_warm :
    let s := { during .exceptionHandling 0x80 [] with par := { State.reset.par with warmReset := true } }
    s.AllMemory ∧ s.par.warmReset = true := ⟨rfl, rfl⟩

theorem test_hyp_StoppedStates : (during .sleep 0 [.stbyLow]).host = .stbyLow :: [] ∧
    ((during .hardwareStandby 0 [.stbyHigh]).pstate = .hardwareStandby ∧
      (during .hardwareStandby 0 [.stbyHigh]).host = .stbyHigh :: [] ∧
      completes (step (during .hardwareStandby 0 [.stbyHigh])) = true) := by decide

/-- Clause by clause: a bus request, a step without effect with and without an entry, the end, a write. -/
theorem test_hyp_StoppedStates_bus :
    ((during .sleep 0 [.busRequest]).pstate = BusHolder.sleep.state ∧
      (during .sleep 0 [.busRequest]).host = .busRequest :: []) ∧
    ((during (.busReleased .sleep) 0 []).pstate = .busReleased .sleep ∧
      (during (.busReleased .sleep) 0 []).host.head? = none ∧
      (during (.busReleased .sleep) 0 [.request nmi]).host.head? = some (.request nmi)) ∧
    (during (.busReleased .sleep) 0 [.busEnd]).host = .busEnd :: [] ∧
    (during (.busReleased .sleep) 0 [.masterWrite 0x1000 5]).host = .masterWrite 0x1000 5 :: [] ∧
    blank.kindAt (blank.red 0x1000) = none ∧ (withDevice 0 [] []).kindAt 0x400 ≠ none := by decide

theorem test_hyp_NopOnlyAdvances : (0x01#8 : Byte) ≠ 0x00 := by decide

end

end Sys2Proof.Tests
end

/-! O4: what the host fixes for a run, which is the parameters, SSBY and the schedule, is kept by every meaning
of an instruction and by every other action of a step but the host's write of SSBY and the end of the step. -/

namespace Sys2Proof.Machine

variable {s t u : State}

/-- The parameters of the run, SSBY and the host's schedule are as before. -/
structure SamePlatform (s t : State) : Prop where
  par : t.par = s.par
  ssby : t.ssby = s.ssby
  host : t.host = s.host

theorem SamePlatform.refl (s : State) : SamePlatform s s := ⟨rfl, rfl, rfl⟩

theorem SamePlatform.trans (h : SamePlatform s t) (k : SamePlatform t u) : SamePlatform s u :=
  ⟨k.par.trans h.par, k.ssby.trans h.ssby, k.host.trans h.host⟩

theorem SameControl.samePlatform (h : SameControl s t) : SamePlatform s t := by
  obtain ⟨-, -, -, hpar, hssby, hhost⟩ := h
  exact ⟨hpar, hssby, hhost⟩

/-- The word read ahead is no part of the platform. -/
theorem SameControl.samePlatform_of_prefetch {p : Option Word} (h : SameControl { s with prefetch := p } t) :
    SamePlatform s t := by
  obtain ⟨-, -, -, hpar, hssby, hhost⟩ := h
  exact ⟨hpar, hssby, hhost⟩

theorem Fetches.samePlatform (h : Fetches s t) : SamePlatform s t := ⟨h.par, h.ssby, h.host⟩

/-- If an instruction has a next state, its platform is that of `s`. -/
def KeepsPlatform (s : State) : Result → Prop
  | .next t => SamePlatform s t
  | .fault _ | .refused _ => True

theorem keepsPlatform_next (h : SamePlatform s t) : KeepsPlatform s (.next t) := h

/-- An effect, as the laws of the shared operations state it, that keeps the platform. -/
theorem keepsPlatform_of_effect {r : Result} {effect : State → Prop} (h : ∃ t, r = .next t ∧ effect t)
    (keeps : ∀ t, effect t → SamePlatform s t) : KeepsPlatform s r := by
  obtain ⟨t, rfl, ht⟩ := h
  exact keeps t ht

theorem advance_samePlatform (s : State) (k : Nat) : SamePlatform s (s.advance k) := by
  constructor <;> simp

theorem exceptionEntry_samePlatform (s : State) (k : Byte) (ret : Addr) :
    SamePlatform s (s.exceptionEntry k ret) := by
  constructor <;> simp

/-! ### Effects on registers -/

section

variable {α : Type} {w : Nat} {Wrote : α → BitVec w → State → State → Prop} {rd : α} {v : BitVec w} {n : Addr}

theorem Gives.samePlatform {flags : State → State → Prop} (t : State) (h : Gives Wrote rd v flags s n t) :
    SamePlatform s t := by
  obtain ⟨-, -, -, -, control, -⟩ := h
  exact control.samePlatform

theorem Shifts.samePlatform {p : BitVec w → Bool → Bool → Prop} (t : State) (h : Shifts Wrote rd p s n t) :
    SamePlatform s t := by
  obtain ⟨_, -, gives⟩ := h
  exact gives.samePlatform

end

theorem decimalAdjust_keepsPlatform (subtract : Bool) (row : Option (Byte × Bool)) (rd : R8) (s : State) :
    KeepsPlatform s (decimalAdjust subtract row rd s) :=
  keepsPlatform_next (by cases row <;> constructor <;> simp)

theorem putQuotientB_samePlatform (signed : Bool) (q : Option Word) (rs : R8) (rd : R16) (s : State) :
    SamePlatform s (putQuotientB signed q rs rd s) := by
  unfold putQuotientB
  split <;> constructor <;> simp

theorem putQuotientW_samePlatform (signed : Bool) (q : Option Long) (rs : R16) (erd : ER) (s : State) :
    SamePlatform s (putQuotientW signed q rs erd s) := by
  unfold putQuotientW
  split <;> constructor <;> simp

/-- The end of every division. -/
theorem setDivFlags_advance_samePlatform (s : State) (n z : Bool) (k : Nat) :
    SamePlatform s ((s.setDivFlags n z).advance k) := by
  constructor <;> simp

/-! ### Where there is no E clock MOVFPE and MOVTPE have no next state -/

theorem execMovfpe_keepsPlatform (aa : BitVec 16) (rd : R8) (s : State) :
    KeepsPlatform s (execMovfpe aa rd s) := by
  unfold execMovfpe
  split
  · exact keepsPlatform_of_effect (loadMovB_effect _ _ _ _)
      fun _ ⟨_, _, _, _, control, _⟩ => control.samePlatform
  · trivial

theorem execMovtpe_keepsPlatform (rs : R8) (aa : BitVec 16) (s : State) :
    KeepsPlatform s (execMovtpe rs aa s) := by
  unfold execMovtpe
  split
  · exact keepsPlatform_of_effect (storeMovB_effect _ _ _ _)
      fun _ ⟨_, _, _, _, _, control⟩ => control.samePlatform
  · trivial

/-! ### Block transfer -/

theorem dummyReads_samePlatform (s : State) : SamePlatform s s.dummyReads := by
  unfold State.dummyReads
  constructor <;> simp

theorem copyByte_samePlatform (s : State) : SamePlatform s s.copyByte := by
  unfold State.copyByte
  constructor <;> simp

theorem copyBlockB_samePlatform (n : Nat) (s : State) : SamePlatform s (s.copyBlockB n) := by
  induction n generalizing s with
  | zero => exact .refl s
  | succ n ih => exact ((copyByte_samePlatform s).trans (by constructor <;> simp)).trans (ih _)

theorem copyBlockW_samePlatform (n : Nat) (s : State) : SamePlatform s (s.copyBlockW n) := by
  induction n generalizing s with
  | zero => exact .refl s
  | succ n ih => exact ((copyByte_samePlatform s).trans (by constructor <;> simp)).trans (ih _)

theorem execEepmovB_keepsPlatform (s : State) : KeepsPlatform s (execEepmovB s) :=
  keepsPlatform_next
    (((dummyReads_samePlatform s).trans (copyBlockB_samePlatform _ _)).trans (advance_samePlatform _ 4))

/-- The NMI that ends EEPMOV.W enters its handler in the same step. -/
theorem execEepmovW_keepsPlatform (s : State) : KeepsPlatform s (execEepmovW s) := by
  have transferred (k : Nat) : SamePlatform s (s.dummyReads.copyBlockW k) :=
    (dummyReads_samePlatform s).trans (copyBlockW_samePlatform k _)
  unfold execEepmovW
  dsimp only
  split
  · have reads (u : State) (a b : Addr) : SamePlatform u ((u.seeW a).seeW b) :=
      ((fetches_seeW u a).trans (fetches_seeW _ b)).samePlatform
    exact keepsPlatform_next (((transferred _).trans (reads _ _ _)).trans (exceptionEntry_samePlatform _ _ _))
  · exact keepsPlatform_next ((transferred _).trans (advance_samePlatform _ 4))

/-! ### Every instruction -/

theorem returnFromException_samePlatform (s : State) : SamePlatform s s.returnFromException := by
  unfold State.returnFromException
  constructor <;> simp

/-- No instruction changes the platform. The cases are grouped by the shared operation that is their
meaning, and cite its effect. -/
theorem exec_keepsPlatform (i : Instr) (s : State) : KeepsPlatform s (exec i s) := by
  cases i with
  | movBReg | movBImm => exact keepsPlatform_of_effect (moveB_effect _ _ _ _) Gives.samePlatform
  | movWReg | movWImm => exact keepsPlatform_of_effect (moveW_effect _ _ _ _) Gives.samePlatform
  | movLReg | movLImm => exact keepsPlatform_of_effect (moveL_effect _ _ _ _) Gives.samePlatform
  | movBLoadInd | movBLoadDisp16 | movBLoadDisp24 | movBLoadInc | movBLoadAbs8 | movBLoadAbs16
  | movBLoadAbs24 =>
    exact keepsPlatform_of_effect (loadMovB_effect _ _ _ _)
      fun _ ⟨_, _, _, _, control, _⟩ => control.samePlatform
  | movWLoadInd | movWLoadDisp16 | movWLoadDisp24 | movWLoadInc | movWLoadAbs16 | movWLoadAbs24 | popW =>
    exact keepsPlatform_of_effect (loadMovW_effect _ _ _ _)
      fun _ ⟨_, _, _, _, control, _⟩ => control.samePlatform
  | movLLoadInd | movLLoadDisp16 | movLLoadDisp24 | movLLoadInc | movLLoadAbs16 | movLLoadAbs24 | popL =>
    exact keepsPlatform_of_effect (loadMovL_effect _ _ _ _)
      fun _ ⟨_, _, _, _, control, _⟩ => control.samePlatform
  | movBStoreInd | movBStoreDisp16 | movBStoreDisp24 | movBStoreDec | movBStoreAbs8 | movBStoreAbs16
  | movBStoreAbs24 =>
    exact keepsPlatform_of_effect (storeMovB_effect _ _ _ _)
      fun _ ⟨_, _, _, _, _, control⟩ => control.samePlatform
  | movWStoreInd | movWStoreDisp16 | movWStoreDisp24 | movWStoreDec | movWStoreAbs16
  | movWStoreAbs24 | pushW =>
    exact keepsPlatform_of_effect (storeMovW_effect _ _ _ _)
      fun _ ⟨_, _, _, _, _, control⟩ => control.samePlatform
  | movLStoreInd | movLStoreDisp16 | movLStoreDisp24 | movLStoreDec | movLStoreAbs16
  | movLStoreAbs24 | pushL =>
    exact keepsPlatform_of_effect (storeMovL_effect _ _ _ _)
      fun _ ⟨_, _, _, _, _, control⟩ => control.samePlatform
  | movfpe => exact execMovfpe_keepsPlatform _ _ _
  | movtpe => exact execMovtpe_keepsPlatform _ _ _
  | addBImm | addBReg => exact keepsPlatform_of_effect (addB_effect _ _ _ _) Gives.samePlatform
  | addWImm | addWReg => exact keepsPlatform_of_effect (addW_effect _ _ _ _) Gives.samePlatform
  | addLImm | addLReg => exact keepsPlatform_of_effect (addL_effect _ _ _ _) Gives.samePlatform
  | subBReg => exact keepsPlatform_of_effect (subB_effect _ _ _ _) Gives.samePlatform
  | subWImm | subWReg => exact keepsPlatform_of_effect (subW_effect _ _ _ _) Gives.samePlatform
  | subLImm | subLReg => exact keepsPlatform_of_effect (subL_effect _ _ _ _) Gives.samePlatform
  | daa | das => exact decimalAdjust_keepsPlatform _ _ _ _
  | divxuB | divxsB =>
    exact (putQuotientB_samePlatform _ _ _ _ s).trans (setDivFlags_advance_samePlatform _ _ _ _)
  | divxuW | divxsW =>
    exact (putQuotientW_samePlatform _ _ _ _ s).trans (setDivFlags_advance_samePlatform _ _ _ _)
  | andBImm | andBReg | orBImm | orBReg | xorBImm | xorBReg | notB =>
    exact keepsPlatform_of_effect (logicB_effect _ _ _ _) Gives.samePlatform
  | andWImm | andWReg | orWImm | orWReg | xorWImm | xorWReg | notW =>
    exact keepsPlatform_of_effect (logicW_effect _ _ _ _) Gives.samePlatform
  | andLImm | andLReg | orLImm | orLReg | xorLImm | xorLReg | notL =>
    exact keepsPlatform_of_effect (logicL_effect _ _ _ _) Gives.samePlatform
  | shalB | sharB | shllB | shlrB | rotlB | rotrB | rotxlB | rotxrB =>
    exact keepsPlatform_of_effect (shiftB_effect _ _ _) Shifts.samePlatform
  | shalW | sharW | shllW | shlrW | rotlW | rotrW | rotxlW | rotxrW =>
    exact keepsPlatform_of_effect (shiftW_effect _ _ _) Shifts.samePlatform
  | shalL | sharL | shllL | shlrL | rotlL | rotrL | rotxlL | rotxrL =>
    exact keepsPlatform_of_effect (shiftL_effect _ _ _) Shifts.samePlatform
  | bsetImmReg | bsetRnReg | bclrImmReg | bclrRnReg | bnotImmReg | bnotRnReg | bstReg | bistReg =>
    exact keepsPlatform_of_effect (changeReg_effect _ _ _) Gives.samePlatform
  | bsetImmInd | bsetImmAbs | bsetRnInd | bsetRnAbs | bclrImmInd | bclrImmAbs | bclrRnInd | bclrRnAbs
  | bnotImmInd | bnotImmAbs | bnotRnInd | bnotRnAbs | bstInd | bstAbs | bistInd | bistAbs =>
    exact keepsPlatform_of_effect (changeMem_effect _ _ _)
      fun _ ⟨_, _, _, _, _, _, _, _, _, _, _, _, _, control⟩ => control.samePlatform_of_prefetch
  | braD8 | brnD8 | bhiD8 | blsD8 | bccD8 | bcsD8 | bneD8 | beqD8 | bvcD8 | bvsD8 | bplD8 | bmiD8 | bgeD8
  | bltD8 | bgtD8 | bleD8 =>
    exact keepsPlatform_of_effect (branchShort_effect _ _ _)
      fun _ ⟨_, _, _, _, _, control⟩ => control.samePlatform_of_prefetch
  | braD16 | brnD16 | bhiD16 | blsD16 | bccD16 | bcsD16 | bneD16 | beqD16 | bvcD16 | bvsD16 | bplD16 | bmiD16
  | bgeD16 | bltD16 | bgtD16 | bleD16 =>
    exact keepsPlatform_of_effect (branch_effect _ _ _)
      fun _ ⟨_, _, _, _, control, _⟩ => control.samePlatform
  | bsrD8 | bsrD16 | jsrInd | jsrAbs =>
    exact keepsPlatform_of_effect (callDirect_effect _ _ _)
      fun _ ⟨_, _, _, control⟩ => control.samePlatform_of_prefetch
  | jsrMem =>
    exact keepsPlatform_of_effect (callThrough_effect _ _ _)
      fun _ ⟨_, _, _, control⟩ => control.samePlatform_of_prefetch
  | ldcImm | ldcReg | andc | orc | xorc =>
    exact keepsPlatform_of_effect (writeCcr_effect _ _ _)
      fun _ ⟨⟨_, _, _, _, _, _, _, par, ssby, host⟩, _⟩ => ⟨par, ssby, host⟩
  | ldcLoadInd | ldcLoadDisp16 | ldcLoadDisp24 | ldcLoadInc | ldcLoadAbs16 | ldcLoadAbs24 =>
    exact keepsPlatform_of_effect (loadCcr_effect _ _ _)
      fun _ ⟨⟨_, _, _, _, _, _, _, par, ssby, host⟩, _⟩ => ⟨par, ssby, host⟩
  | stcStoreInd | stcStoreDisp16 | stcStoreDisp24 | stcStoreDec | stcStoreAbs16 | stcStoreAbs24 =>
    exact keepsPlatform_of_effect (storeCcr_effect _ _ _)
      fun _ ⟨_, _, _, _, _, control⟩ => control.samePlatform
  | trapa => exact keepsPlatform_next (exceptionEntry_samePlatform s _ _)
  | rte => exact keepsPlatform_next (returnFromException_samePlatform s)
  | eepmovB => exact execEepmovB_keepsPlatform s
  | eepmovW => exact execEepmovW_keepsPlatform s
  -- The rest composes writes of registers, CCR and PC with reads of memory: Laws/State has the lemma of each
  -- field under each of them.
  | addxImm | addxReg | subxImm | subxReg | adds1 | adds2 | adds4 | subs1 | subs2 | subs4
  | incB | incW1 | incW2 | incL1 | incL2 | decB | decW1 | decW2 | decL1 | decL2
  | cmpBImm | cmpBReg | cmpWImm | cmpWReg | cmpLImm | cmpLReg | negB | negW | negL
  | mulxuB | mulxuW | mulxsB | mulxsW | extsW | extsL | extuW | extuL
  | btstImmReg | btstRnReg | bandReg | biandReg | borReg | biorReg | bxorReg | bixorReg | bldReg | bildReg
  | btstImmInd | btstImmAbs | btstRnInd | btstRnAbs | bandInd | bandAbs | biandInd | biandAbs | borInd | borAbs
  | biorInd | biorAbs | bxorInd | bxorAbs | bixorInd | bixorAbs | bldInd | bldAbs | bildInd | bildAbs
  | jmpInd | jmpAbs | jmpMem | rts | sleep | nop | stcReg =>
    exact keepsPlatform_next (by constructor <;> simp)

/-! ### What a step can do to the platform -/

theorem runInstruction_samePlatform (h : s.runInstruction = .next t) : ∃ u, SamePlatform s u ∧ t = u.tick := by
  obtain ⟨i, u, -, hu, rfl⟩ := s.runInstruction_next h
  have executed : KeepsPlatform (s.started i) (.next u) := hu ▸ exec_keepsPlatform i (s.started i)
  exact ⟨u.fetchDue, ((fetches_started s i).samePlatform.trans executed).trans (by constructor <;> simp), rfl⟩

theorem resetRegisters_samePlatform (s : State) : SamePlatform s s.resetRegisters := by
  unfold State.resetRegisters
  split <;> constructor <;> simp

theorem finishReset_samePlatform (s : State) : SamePlatform s s.finishReset :=
  (resetRegisters_samePlatform s).trans (by unfold State.finishReset; constructor <;> simp)

theorem enterInterrupt_samePlatform (s : State) (source : Source) :
    SamePlatform s (s.enterInterrupt source) := by
  unfold State.enterInterrupt
  constructor <;> simp

theorem masterWrites_samePlatform (s : State) (a : Addr) (v : Byte) : SamePlatform s (s.masterWrites a v) := by
  unfold State.masterWrites
  split <;> exact ⟨rfl, rfl, rfl⟩

/-- Of what the host can do, only the write of the platform register changes the platform: it sets SSBY. -/
theorem respond_platform_cases {e : HostEvent} (h : s.respond e = some t) :
    SamePlatform s t ∨ ∃ b, e = .setSsby b ∧ t = { s with ssby := b } := by
  cases e with
  | setSsby b => cases h; exact .inr ⟨b, rfl, rfl⟩
  | idle | nmiDuringBlock => cases h
  | request r =>
    left
    dsimp only [State.respond] at h
    split at h
    · cases h; exact enterInterrupt_samePlatform s r.source
    · cases h
  | masterWrite a v =>
    left
    dsimp only [State.respond] at h
    split at h
    · cases h; exact masterWrites_samePlatform s a v
    · cases h
  | stbyLow => cases h; exact .inl ⟨rfl, rfl, rfl⟩
  | resLow | resHigh | stbyHigh | busRequest | busEnd =>
    left
    dsimp only [State.respond] at h
    split at h <;> cases h
    exact ⟨rfl, rfl, rfl⟩

/-- A step ends with the tick that uses up the host's entry; before it the platform is as it was, or the host
has written SSBY. -/
theorem step_platform_cases (h : step s = .next t) :
    ∃ u, (SamePlatform s u ∨ ∃ b, s.host.headD .idle = .setSsby b ∧ u = { s with ssby := b }) ∧
      t = u.tick := by
  unfold step at h
  split at h
  next u hu => cases h; exact ⟨u, respond_platform_cases hu, rfl⟩
  next =>
    split at h
    · obtain ⟨u, hu, rfl⟩ := runInstruction_samePlatform h
      exact ⟨u, .inl hu, rfl⟩
    · cases h; exact ⟨s.finishReset, .inl (finishReset_samePlatform s), rfl⟩
    · cases h; exact ⟨s, .inl (.refl s), rfl⟩

/-- An empty schedule stands for idle, so a write of SSBY is an entry of the schedule. -/
theorem head?_eq_of_headD_eq_setSsby {events : List HostEvent} {b : Bool}
    (h : events.headD .idle = .setSsby b) :
    events.head? = some (.setSsby b) := by
  cases events with
  | nil => cases h
  | cons e events => exact congrArg some h

/-- Settles O4, from what a step can do before its tick. -/
theorem parametersFixed : Obligations.ParametersFixed := by
  intro s t h
  obtain ⟨u, hu, rfl⟩ := step_platform_cases h
  obtain same | ⟨b, hb, rfl⟩ := hu
  · exact ⟨same.par, fun _ => same.ssby, congrArg List.tail same.host⟩
  · exact ⟨rfl, fun noWrite => absurd (head?_eq_of_headD_eq_setSsby hb) (noWrite b), rfl⟩

end Sys2Proof.Machine

/-! O2, O3, O10, O11 and O12. Where each instruction leaves PC and the word read ahead, and that it keeps memory
canonical, are two case analyses over the instructions, of which O3 and O12 are made; O10 and O11 are about the
fetches of a step. -/

namespace Sys2Proof.Machine

variable {s t u : State} {i : Instr}

/-- If an instruction has a next state, `p` holds of it. -/
def OnNext (p : State → Prop) : Result → Prop
  | .next t => p t
  | .fault _ | .refused _ => True

theorem OnNext.of_eq {p : State → Prop} {r : Result} (h : OnNext p r) (k : r = .next t) : p t := by
  subst k
  exact h

theorem onNext_next {p : State → Prop} (h : p t) : OnNext p (.next t) := h

/-- From an effect, as the laws of the shared operations state it. -/
theorem onNext_of_effect {p effect : State → Prop} {r : Result} (h : ∃ t, r = .next t ∧ effect t)
    (k : ∀ t, effect t → p t) : OnNext p r := by
  obtain ⟨t, rfl, ht⟩ := h
  exact k t ht

/-! ### Where an instruction leaves PC and the word read ahead -/

/-- How an instruction hands over to what runs next. -/
inductive Continues (i : Instr) (s t : State) : Prop
  /-- The word read before the data cycles runs next. -/
  | held (row : (nextRead i).held = true) (pc : t.pc = s.nextPc i) (prefetch : t.prefetch = s.prefetch)
  /-- The word read at the branch target runs next. -/
  | taken (row : (nextRead i).held = true) (target : Addr) (pc : t.pc = s.pcForm target)
    (prefetch : t.prefetch = some (s.loadW target))
  /-- The word read in `r`, after the byte is read and before it is written back, runs next. -/
  | within (row : nextRead i = .within) (r : State) (par : r.par = s.par) (memory : SameMemory s r)
    (pc : t.pc = s.nextPc i) (prefetch : t.prefetch = some (r.loadW (s.nextPc i)))
  /-- What runs next is still to be read, but for a call's target in a window. -/
  | late (row : readsAhead i = false) (target : Addr) (pc : t.pc = s.pcForm target)
    (prefetch : s.AllMemory → s.prefetch = none → t.prefetch = none)

/-- PC is left in its stored form, whatever runs next. -/
theorem Continues.pc_eq_pcForm (h : Continues i s t) : ∃ a, t.pc = s.pcForm a := by
  cases h with
  | held _ pc | within _ _ _ _ pc => exact ⟨_, pc⟩
  | taken _ _ pc | late _ _ pc => exact ⟨_, pc⟩

theorem SameControl.prefetch_eq (h : SameControl s t) : t.prefetch = s.prefetch := by
  obtain ⟨-, -, hprefetch, -⟩ := h
  exact hprefetch

theorem continues_of_control (row : (nextRead i).held = true) (pc : t.pc = s.nextPc i) (control : SameControl s t) :
    Continues i s t :=
  .held row pc control.prefetch_eq

theorem continues_late_of_control {target : Addr} (row : readsAhead i = false) (pc : t.pc = s.pcForm target)
    (control : SameControl s t) : Continues i s t :=
  .late row target pc fun _ unread => control.prefetch_eq.trans unread

section

variable {α : Type} {w : Nat} {Wrote : α → BitVec w → State → State → Prop} {rd : α} {v : BitVec w}

theorem Gives.continues {flags : State → State → Prop} (row : (nextRead i).held = true)
    (h : Gives Wrote rd v flags s (s.nextPc i) t) : Continues i s t := by
  obtain ⟨-, -, pc, -, control, -⟩ := h
  exact continues_of_control row pc control

theorem Shifts.continues {p : BitVec w → Bool → Bool → Prop} (row : (nextRead i).held = true)
    (h : Shifts Wrote rd p s (s.nextPc i) t) : Continues i s t := by
  obtain ⟨_, -, gives⟩ := h
  exact gives.continues row

end

theorem BranchesShort.continues {c : Bool} {d : Addr} (row : (nextRead i).held = true)
    (h : BranchesShort c d s (s.nextPc i) t) : Continues i s t := by
  obtain ⟨pc, -, -, -, -, control⟩ := h
  have prefetch := control.prefetch_eq
  cases c with
  | true => exact .taken row _ pc prefetch
  | false => exact .held row (pc.trans (s.pcForm_pcForm _)) prefetch

/-- `u` is the state after the read before the push. -/
theorem Calls.continues {target n : Addr} (row : readsAhead i = false)
    (read : s.AllMemory → u.prefetch = s.prefetch) (h : Calls target u s n t) : Continues i s t := by
  obtain ⟨-, pc, -, control⟩ := h
  exact .late row target pc fun all unread => control.prefetch_eq.trans ((read all).trans unread)

theorem Entered.continues {k : Byte} {ret : Addr} (row : readsAhead i = false) (par : u.par = s.par)
    (h : Entered k ret u t) : Continues i s t := by
  obtain ⟨v, vpar, -, -, -, -, -, -, -, pc, -, -, -, -, unread, -⟩ := h
  exact .late row _ (pc.trans (State.pcForm_congr (vpar.trans par) _)) fun _ _ => unread

theorem State.kindAt_allMemory (all : s.AllMemory) (a : Addr) : s.kindAt a = none := by
  unfold State.AllMemory at all
  rw [State.kindAt, all, regionKind]

theorem State.AllMemory.congr (all : s.AllMemory) (par : t.par = s.par) : t.AllMemory :=
  (congrArg Params.memMap par).trans all

/-- In ordinary memory a call reads its target after the push. -/
theorem State.readTarget_allMemory (all : s.AllMemory) (a : Addr) : s.readTarget a = s := by
  rw [State.readTarget, State.kindAt_allMemory all]

/-- PC, the parameters and the word read ahead are as before: a computation on registers and CCR leaves them
alone, and so does a block transfer. -/
structure Still (s t : State) : Prop where
  pc : t.pc = s.pc
  par : t.par = s.par
  prefetch : t.prefetch = s.prefetch

theorem Still.trans (h : Still s t) (k : Still t u) : Still s u :=
  ⟨k.pc.trans h.pc, k.par.trans h.par, k.prefetch.trans h.prefetch⟩

theorem Still.continues_advance {k : Nat} (h : Still s u) (row : (nextRead i).held = true)
    (length : i.length = k) : Continues i s (u.advance k) :=
  .held row (by subst length; exact State.next_congr h.pc h.par _) h.prefetch

theorem Still.continues_advance_late {k : Nat} (h : Still s u) (row : readsAhead i = false) :
    Continues i s (u.advance k) :=
  .late row _ (State.next_congr h.pc h.par k) fun _ unread => h.prefetch.trans unread

theorem putQuotientB_still (signed : Bool) (q : Option Word) (rs : R8) (rd : R16) (s : State) :
    Still s (putQuotientB signed q rs rd s) := by
  unfold putQuotientB
  split <;> constructor <;> simp

theorem putQuotientW_still (signed : Bool) (q : Option Long) (rs : R16) (erd : ER) (s : State) :
    Still s (putQuotientW signed q rs erd s) := by
  unfold putQuotientW
  split <;> constructor <;> simp

theorem setDivFlags_still (s : State) (n z : Bool) : Still s (s.setDivFlags n z) := by
  constructor <;> simp

theorem dummyReads_still (s : State) : Still s s.dummyReads := by
  unfold State.dummyReads
  constructor <;> simp

theorem copyByte_still (s : State) : Still s s.copyByte := by
  unfold State.copyByte
  constructor <;> simp

theorem copyBlockB_still (n : Nat) (s : State) : Still s (s.copyBlockB n) := by
  induction n generalizing s with
  | zero => exact ⟨rfl, rfl, rfl⟩
  | succ n ih => exact ((copyByte_still s).trans (by constructor <;> simp)).trans (ih _)

theorem copyBlockW_still (n : Nat) (s : State) : Still s (s.copyBlockW n) := by
  induction n generalizing s with
  | zero => exact ⟨rfl, rfl, rfl⟩
  | succ n ih => exact ((copyByte_still s).trans (by constructor <;> simp)).trans (ih _)

theorem decimalAdjust_continues {subtract : Bool} {row : Option (Byte × Bool)} {rd : R8}
    (held : (nextRead i).held = true) (length : i.length = 2) :
    OnNext (Continues i s) (decimalAdjust subtract row rd s) :=
  onNext_next (Still.continues_advance (by cases row <;> constructor <;> simp) held length)

theorem execEepmovW_continues (s : State) : OnNext (Continues .eepmovW s) (execEepmovW s) := by
  have transferred (k : Nat) : Still s (s.dummyReads.copyBlockW k) :=
    (dummyReads_still s).trans (copyBlockW_still k _)
  unfold execEepmovW
  dsimp only
  split
  · exact onNext_next (Entered.continues rfl (by simpa using (transferred _).par)
      (exceptionEntry_effect _ _ _))
  · exact onNext_next ((transferred _).continues_advance_late rfl)

theorem State.returnFromException_prefetch (s : State) : s.returnFromException.prefetch = s.prefetch := by
  simp [State.returnFromException]

theorem execMovfpe_continues (aa : BitVec 16) (rd : R8) (s : State) :
    OnNext (Continues (.movfpe aa rd) s) (execMovfpe aa rd s) := by
  unfold execMovfpe
  split
  · exact onNext_of_effect (loadMovB_effect _ _ _ _)
      fun _ ⟨_, _, pc, _, control, _⟩ => continues_of_control rfl pc control
  · trivial

theorem execMovtpe_continues (rs : R8) (aa : BitVec 16) (s : State) :
    OnNext (Continues (.movtpe rs aa) s) (execMovtpe rs aa s) := by
  unfold execMovtpe
  split
  · exact onNext_of_effect (storeMovB_effect _ _ _ _)
      fun _ ⟨_, _, _, _, pc, control⟩ => continues_of_control rfl pc control
  · trivial

/-- Every instruction hands over as its row of Table 2.10 says. The cases are grouped by the shared operation
that is their meaning, and cite its effect. -/
theorem exec_continues (i : Instr) (s : State) : OnNext (Continues i s) (exec i s) := by
  cases i with
  | movBReg | movBImm => exact onNext_of_effect (moveB_effect _ _ _ _) fun _ h => Gives.continues rfl h
  | movWReg | movWImm => exact onNext_of_effect (moveW_effect _ _ _ _) fun _ h => Gives.continues rfl h
  | movLReg | movLImm => exact onNext_of_effect (moveL_effect _ _ _ _) fun _ h => Gives.continues rfl h
  | movBLoadInd | movBLoadDisp16 | movBLoadDisp24 | movBLoadInc | movBLoadAbs8 | movBLoadAbs16
  | movBLoadAbs24 =>
    exact onNext_of_effect (loadMovB_effect _ _ _ _)
      fun _ ⟨_, _, pc, _, control, _⟩ => continues_of_control rfl pc control
  | movWLoadInd | movWLoadDisp16 | movWLoadDisp24 | movWLoadInc | movWLoadAbs16 | movWLoadAbs24 | popW =>
    exact onNext_of_effect (loadMovW_effect _ _ _ _)
      fun _ ⟨_, _, pc, _, control, _⟩ => continues_of_control rfl pc control
  | movLLoadInd | movLLoadDisp16 | movLLoadDisp24 | movLLoadInc | movLLoadAbs16 | movLLoadAbs24 | popL =>
    exact onNext_of_effect (loadMovL_effect _ _ _ _)
      fun _ ⟨_, _, pc, _, control, _⟩ => continues_of_control rfl pc control
  | movBStoreInd | movBStoreDisp16 | movBStoreDisp24 | movBStoreDec | movBStoreAbs8 | movBStoreAbs16
  | movBStoreAbs24 =>
    exact onNext_of_effect (storeMovB_effect _ _ _ _)
      fun _ ⟨_, _, _, _, pc, control⟩ => continues_of_control rfl pc control
  | movWStoreInd | movWStoreDisp16 | movWStoreDisp24 | movWStoreDec | movWStoreAbs16
  | movWStoreAbs24 | pushW =>
    exact onNext_of_effect (storeMovW_effect _ _ _ _)
      fun _ ⟨_, _, _, _, pc, control⟩ => continues_of_control rfl pc control
  | movLStoreInd | movLStoreDisp16 | movLStoreDisp24 | movLStoreDec | movLStoreAbs16
  | movLStoreAbs24 | pushL =>
    exact onNext_of_effect (storeMovL_effect _ _ _ _)
      fun _ ⟨_, _, _, _, pc, control⟩ => continues_of_control rfl pc control
  | movfpe => exact execMovfpe_continues _ _ _
  | movtpe => exact execMovtpe_continues _ _ _
  | addBImm | addBReg => exact onNext_of_effect (addB_effect _ _ _ _) fun _ h => Gives.continues rfl h
  | addWImm | addWReg => exact onNext_of_effect (addW_effect _ _ _ _) fun _ h => Gives.continues rfl h
  | addLImm | addLReg => exact onNext_of_effect (addL_effect _ _ _ _) fun _ h => Gives.continues rfl h
  | subBReg => exact onNext_of_effect (subB_effect _ _ _ _) fun _ h => Gives.continues rfl h
  | subWImm | subWReg => exact onNext_of_effect (subW_effect _ _ _ _) fun _ h => Gives.continues rfl h
  | subLImm | subLReg => exact onNext_of_effect (subL_effect _ _ _ _) fun _ h => Gives.continues rfl h
  | daa | das => exact decimalAdjust_continues rfl rfl
  | divxuB | divxsB =>
    exact onNext_next
      (((putQuotientB_still _ _ _ _ s).trans (setDivFlags_still _ _ _)).continues_advance rfl rfl)
  | divxuW | divxsW =>
    exact onNext_next
      (((putQuotientW_still _ _ _ _ s).trans (setDivFlags_still _ _ _)).continues_advance rfl rfl)
  | andBImm | andBReg | orBImm | orBReg | xorBImm | xorBReg | notB =>
    exact onNext_of_effect (logicB_effect _ _ _ _) fun _ h => Gives.continues rfl h
  | andWImm | andWReg | orWImm | orWReg | xorWImm | xorWReg | notW =>
    exact onNext_of_effect (logicW_effect _ _ _ _) fun _ h => Gives.continues rfl h
  | andLImm | andLReg | orLImm | orLReg | xorLImm | xorLReg | notL =>
    exact onNext_of_effect (logicL_effect _ _ _ _) fun _ h => Gives.continues rfl h
  | shalB | sharB | shllB | shlrB | rotlB | rotrB | rotxlB | rotxrB =>
    exact onNext_of_effect (shiftB_effect _ _ _) fun _ h => Shifts.continues rfl h
  | shalW | sharW | shllW | shlrW | rotlW | rotrW | rotxlW | rotxrW =>
    exact onNext_of_effect (shiftW_effect _ _ _) fun _ h => Shifts.continues rfl h
  | shalL | sharL | shllL | shlrL | rotlL | rotrL | rotxlL | rotxrL =>
    exact onNext_of_effect (shiftL_effect _ _ _) fun _ h => Shifts.continues rfl h
  | bsetImmReg | bsetRnReg | bclrImmReg | bclrRnReg | bnotImmReg | bnotRnReg | bstReg | bistReg =>
    exact onNext_of_effect (changeReg_effect _ _ _) fun _ h => Gives.continues rfl h
  | bsetImmInd | bsetImmAbs | bsetRnInd | bsetRnAbs | bclrImmInd | bclrImmAbs | bclrRnInd | bclrRnAbs
  | bnotImmInd | bnotImmAbs | bnotRnInd | bnotRnAbs | bstInd | bstAbs | bistInd | bistAbs =>
    exact onNext_of_effect (changeMem_effect _ _ _)
      fun _ ⟨r, _, par, _, memory, _, _, _, _, _, _, _, pc, control⟩ =>
        .within rfl r par memory pc control.prefetch_eq
  | btstImmInd | btstImmAbs | btstRnInd | btstRnAbs | bandInd | bandAbs | biandInd | biandAbs | borInd | borAbs
  | biorInd | biorAbs | bxorInd | bxorAbs | bixorInd | bixorAbs | bldInd | bldAbs | bildInd | bildAbs =>
    exact onNext_next (Still.continues_advance_late (by constructor <;> simp) rfl)
  | braD8 | brnD8 | bhiD8 | blsD8 | bccD8 | bcsD8 | bneD8 | beqD8 | bvcD8 | bvsD8 | bplD8 | bmiD8 | bgeD8
  | bltD8 | bgtD8 | bleD8 =>
    exact onNext_of_effect (branchShort_effect _ _ _) fun _ h => BranchesShort.continues rfl h
  | braD16 | brnD16 | bhiD16 | blsD16 | bccD16 | bcsD16 | bneD16 | beqD16 | bvcD16 | bvsD16 | bplD16 | bmiD16
  | bgeD16 | bltD16 | bgtD16 | bleD16 =>
    exact onNext_of_effect (branch_effect _ _ _)
      fun _ ⟨pc, _, _, _, control, _⟩ => continues_late_of_control rfl pc control
  | bsrD8 | bsrD16 | jsrInd | jsrAbs =>
    exact onNext_of_effect (callDirect_effect _ _ _)
      fun _ => Calls.continues rfl fun all => by rw [State.readTarget_allMemory all]
  | jsrMem =>
    exact onNext_of_effect (callThrough_effect _ _ _)
      fun _ => Calls.continues rfl fun _ => State.seePointer_prefetch s _
  | ldcImm | ldcReg | andc | orc | xorc =>
    exact onNext_of_effect (writeCcr_effect _ _ _)
      fun _ ⟨⟨_, _, _, pc, _, _, prefetch, _⟩, _⟩ => .held rfl pc prefetch
  | ldcLoadInd | ldcLoadDisp16 | ldcLoadDisp24 | ldcLoadInc | ldcLoadAbs16 | ldcLoadAbs24 =>
    exact onNext_of_effect (loadCcr_effect _ _ _)
      fun _ ⟨⟨_, _, _, pc, _, _, prefetch, _⟩, _⟩ => .held rfl pc prefetch
  | stcStoreInd | stcStoreDisp16 | stcStoreDisp24 | stcStoreDec | stcStoreAbs16 | stcStoreAbs24 =>
    exact onNext_of_effect (storeCcr_effect _ _ _)
      fun _ ⟨_, _, _, _, pc, control⟩ => continues_of_control rfl pc control
  | trapa => exact onNext_next (Entered.continues rfl rfl (exceptionEntry_effect _ _ s))
  | eepmovB =>
    exact onNext_next
      (((dummyReads_still s).trans (copyBlockB_still _ _)).continues_advance_late rfl)
  | eepmovW => exact execEepmovW_continues s
  | jmpInd | jmpAbs | jmpMem | rts =>
    exact onNext_next (.late rfl _ (State.pcForm_congr (by simp) _) fun _ unread => by simpa using unread)
  | rte =>
    exact onNext_next
      (.late rfl _ (State.pcForm_congr (by simp) _) fun _ unread => s.returnFromException_prefetch.trans unread)
  | sleep => exact onNext_next (.held rfl rfl rfl)
  -- The rest composes writes of registers and CCR before the end of the instruction.
  | addxImm | addxReg | subxImm | subxReg | adds1 | adds2 | adds4 | subs1 | subs2 | subs4
  | incB | incW1 | incW2 | incL1 | incL2 | decB | decW1 | decW2 | decL1 | decL2
  | cmpBImm | cmpBReg | cmpWImm | cmpWReg | cmpLImm | cmpLReg | negB | negW | negL
  | mulxuB | mulxuW | mulxsB | mulxsW | extsW | extsL | extuW | extuL
  | btstImmReg | btstRnReg | bandReg | biandReg | borReg | biorReg | bxorReg | bixorReg | bldReg | bildReg
  | nop | stcReg =>
    exact onNext_next (Still.continues_advance (by constructor <;> simp) rfl rfl)

/-! ### Memory keeps its canonical form -/

theorem copyByte_wf (h : s.mem.wf = true) : s.copyByte.mem.wf = true :=
  State.storeB_wf _ (by simpa using h) _ _

theorem copyBlockB_wf (n : Nat) (h : s.mem.wf = true) : (s.copyBlockB n).mem.wf = true := by
  induction n generalizing s with
  | zero => exact h
  | succ n ih => exact ih (by simpa using copyByte_wf h)

theorem copyBlockW_wf (n : Nat) (h : s.mem.wf = true) : (s.copyBlockW n).mem.wf = true := by
  induction n generalizing s with
  | zero => exact h
  | succ n ih => exact ih (by simpa using copyByte_wf h)

theorem dummyReads_wf (h : s.mem.wf = true) : s.dummyReads.mem.wf = true := by
  simpa [State.dummyReads] using h

theorem execEepmovW_wf (h : s.mem.wf = true) : OnNext (·.mem.wf = true) (execEepmovW s) := by
  have transferred (k : Nat) : (s.dummyReads.copyBlockW k).mem.wf = true :=
    copyBlockW_wf k (dummyReads_wf h)
  unfold execEepmovW
  dsimp only
  split
  · exact onNext_next (State.exceptionEntry_wf _ (by simpa using transferred _) _ _)
  · exact onNext_next (transferred _)

theorem putQuotientB_mem (signed : Bool) (q : Option Word) (rs : R8) (rd : R16) (s : State) :
    (putQuotientB signed q rs rd s).mem = s.mem := by
  unfold putQuotientB
  split <;> simp

theorem putQuotientW_mem (signed : Bool) (q : Option Long) (rs : R16) (erd : ER) (s : State) :
    (putQuotientW signed q rs erd s).mem = s.mem := by
  unfold putQuotientW
  split <;> simp

theorem storeMovB_wf (m : MemOperand) (rs : R8) (k : Nat) (h : s.mem.wf = true) :
    OnNext (·.mem.wf = true) (storeMovB m rs k s) :=
  onNext_next (by simpa using State.storeB_wf (m.step 1 s) (by simpa using h) (m.ea 1 s) _)

theorem storeMovW_wf (m : MemOperand) (rs : R16) (k : Nat) (h : s.mem.wf = true) :
    OnNext (·.mem.wf = true) (storeMovW m rs k s) :=
  onNext_next (by simpa using State.storeW_wf (m.step 2 s) (by simpa using h) (m.ea 2 s) _)

theorem storeMovL_wf (m : MemOperand) (ers : ER) (k : Nat) (h : s.mem.wf = true) :
    OnNext (·.mem.wf = true) (storeMovL m ers k s) :=
  onNext_next (by simpa using State.storeL_wf (m.step 4 s) (by simpa using h) (m.ea 4 s) _)

theorem storeCcr_wf (m : MemOperand) (k : Nat) (h : s.mem.wf = true) :
    OnNext (·.mem.wf = true) (storeCcr m k s) :=
  onNext_next (by simpa using State.storeBytes_wf (m.step 2 s) (by simpa using h) (m.ea 2 s) _ _)

theorem changeMem_wf (m : MemOperand) (f : Byte → Byte) (h : s.mem.wf = true) :
    OnNext (·.mem.wf = true) (changeMem m f s) :=
  onNext_next (State.storeB_wf _ (by simpa using h) _ _)

theorem call_wf (target : Addr) (k : Nat) (h : s.mem.wf = true) :
    OnNext (·.mem.wf = true) (call target k s) :=
  onNext_next (State.pushReturn_wf _ (by simpa using h) _)

theorem callThrough_wf (pointer : Addr) (k : Nat) (h : s.mem.wf = true) :
    OnNext (·.mem.wf = true) (callThrough pointer k s) :=
  onNext_next (State.pushReturn_wf _ (by simpa using h) _)

theorem execMovfpe_wf (aa : BitVec 16) (rd : R8) (h : s.mem.wf = true) :
    OnNext (·.mem.wf = true) (execMovfpe aa rd s) := by
  unfold execMovfpe
  split
  · exact onNext_next (by simpa using h)
  · trivial

theorem execMovtpe_wf (rs : R8) (aa : BitVec 16) (h : s.mem.wf = true) :
    OnNext (·.mem.wf = true) (execMovtpe rs aa s) := by
  unfold execMovtpe
  split
  · exact storeMovB_wf _ _ _ h
  · trivial

/-- Every instruction keeps memory canonical: what it writes it writes by the accesses of Laws/Ops. -/
theorem exec_wf (i : Instr) (h : s.mem.wf = true) : OnNext (·.mem.wf = true) (exec i s) := by
  cases i with
  | movBStoreInd | movBStoreDisp16 | movBStoreDisp24 | movBStoreDec | movBStoreAbs8 | movBStoreAbs16
  | movBStoreAbs24 => exact storeMovB_wf _ _ _ h
  | movWStoreInd | movWStoreDisp16 | movWStoreDisp24 | movWStoreDec | movWStoreAbs16
  | movWStoreAbs24 | pushW => exact storeMovW_wf _ _ _ h
  | movLStoreInd | movLStoreDisp16 | movLStoreDisp24 | movLStoreDec | movLStoreAbs16
  | movLStoreAbs24 | pushL => exact storeMovL_wf _ _ _ h
  | movfpe => exact execMovfpe_wf _ _ h
  | movtpe => exact execMovtpe_wf _ _ h
  | bsetImmInd | bsetImmAbs | bsetRnInd | bsetRnAbs | bclrImmInd | bclrImmAbs | bclrRnInd | bclrRnAbs
  | bnotImmInd | bnotImmAbs | bnotRnInd | bnotRnAbs | bstInd | bstAbs | bistInd | bistAbs =>
    exact changeMem_wf _ _ h
  | bsrD8 | bsrD16 | jsrInd | jsrAbs => exact call_wf _ _ h
  | jsrMem => exact callThrough_wf _ _ h
  | stcStoreInd | stcStoreDisp16 | stcStoreDisp24 | stcStoreDec | stcStoreAbs16 | stcStoreAbs24 =>
    exact storeCcr_wf _ _ h
  | trapa => exact onNext_next (s.exceptionEntry_wf h _ _)
  | eepmovB => exact onNext_next (copyBlockB_wf _ (dummyReads_wf h))
  | eepmovW => exact execEepmovW_wf h
  | rte => exact onNext_next (by simpa [State.returnFromException] using h)
  -- The rest writes no memory.
  | daa | das => exact onNext_next (by split <;> simpa using h)
  | divxuB | divxsB => exact onNext_next (by simpa [putQuotientB_mem] using h)
  | divxuW | divxsW => exact onNext_next (by simpa [putQuotientW_mem] using h)
  | braD8 | brnD8 | bhiD8 | blsD8 | bccD8 | bcsD8 | bneD8 | beqD8 | bvcD8 | bvsD8 | bplD8 | bmiD8 | bgeD8
  | bltD8 | bgtD8 | bleD8 | braD16 | brnD16 | bhiD16 | blsD16 | bccD16 | bcsD16 | bneD16 | beqD16 | bvcD16
  | bvsD16 | bplD16 | bmiD16 | bgeD16 | bltD16 | bgtD16 | bleD16 =>
    exact onNext_next (by split <;> simpa using h)
  | _ => exact onNext_next (by simpa using h)

/-! ### The invariant -/

theorem State.Inv.wf (h : s.Inv) : s.mem.wf = true := h.1

theorem State.Inv.pcFormed (h : s.Inv) : s.PcFormed := h.2

/-- Memory, PC and the parameters are all the invariant is about. -/
theorem State.Inv.congr (h : s.Inv) (mem : t.mem = s.mem) (pc : t.pc = s.pc) (par : t.par = s.par) : t.Inv := by
  obtain ⟨wf, formed⟩ := h
  exact ⟨(congrArg Memory.wf mem).trans wf, by rw [State.PcFormed, pc, State.pcForm_congr par, formed]⟩

/-- A jump leaves PC in its stored form (R51). -/
theorem inv_of_pc_eq_pcForm {a : Addr} (wf : t.mem.wf = true) (pc : t.pc = s.pcForm a) (par : t.par = s.par) :
    t.Inv :=
  ⟨wf, by rw [State.PcFormed, pc, State.pcForm_congr par, State.pcForm_pcForm]⟩

theorem Fetches.inv (h : Fetches s t) (k : s.Inv) : t.Inv := k.congr h.mem h.pc h.par

theorem exec_par (h : exec i s = .next t) : t.par = s.par := by
  have keeps : KeepsPlatform s (.next t) := h ▸ exec_keepsPlatform i s
  exact keeps.par

/-- An instruction needs canonical memory only: it sets PC to the stored form of an address. -/
theorem exec_inv (h : exec i s = .next t) (wf : s.mem.wf = true) : t.Inv := by
  obtain ⟨a, pc⟩ := ((exec_continues i s).of_eq h).pc_eq_pcForm
  exact inv_of_pc_eq_pcForm ((exec_wf i wf).of_eq h) pc (exec_par h)

theorem fetchDue_inv (h : s.Inv) : s.fetchDue.Inv := h.congr (by simp) (by simp) (by simp)

theorem enterVector_inv (k : Byte) (wf : s.mem.wf = true) : (s.enterVector k).Inv :=
  inv_of_pc_eq_pcForm (by simpa using wf) (State.pcForm_congr (by simp) _) (State.enterVector_par s k)

theorem enterInterrupt_inv (source : Source) (wf : s.mem.wf = true) : (s.enterInterrupt source).Inv :=
  fetchDue_inv (enterVector_inv _ (by simpa using State.pushFrame_wf s.entryRead (by simpa using wf) _))

theorem resetRegisters_mem (s : State) : s.resetRegisters.mem = s.mem := by
  unfold State.resetRegisters
  split <;> rfl

theorem finishReset_inv (wf : s.mem.wf = true) : s.finishReset.Inv := by
  have entered : (s.resetRegisters.enterVector 0#8).Inv :=
    enterVector_inv _ (by rwa [resetRegisters_mem])
  exact fetchDue_inv (entered.congr rfl rfl rfl)

/-- In hardware standby PC is a free value in its stored form. -/
theorem enterHardwareStandby_inv (wf : s.mem.wf = true) : s.enterHardwareStandby.Inv :=
  inv_of_pc_eq_pcForm wf rfl rfl

theorem masterWrites_inv (a : Addr) (v : Byte) (h : s.Inv) : (s.masterWrites a v).Inv := by
  have pc : (s.masterWrites a v).pc = s.pc := by unfold State.masterWrites; split <;> rfl
  exact inv_of_pc_eq_pcForm (s.masterWrites_wf h.wf a v) (pc.trans h.pcFormed.symm)
    (masterWrites_samePlatform s a v).par

/-- Whatever the host does keeps the invariant. -/
theorem respond_inv {e : HostEvent} (h : s.Inv) (k : s.respond e = some t) : t.Inv := by
  cases e with
  | idle | nmiDuringBlock => cases k
  | setSsby b => cases k; exact h.congr rfl rfl rfl
  | stbyLow => cases k; exact enterHardwareStandby_inv h.wf
  | request r =>
    dsimp only [State.respond] at k
    split at k <;> cases k
    exact enterInterrupt_inv r.source h.wf
  | masterWrite a v =>
    dsimp only [State.respond] at k
    split at k <;> cases k
    exact masterWrites_inv a v h
  | resLow | resHigh | stbyHigh | busRequest | busEnd =>
    dsimp only [State.respond] at k
    split at k <;> cases k
    exact h.congr rfl rfl rfl

theorem runInstruction_inv (h : s.Inv) (k : s.runInstruction = .next t) : t.Inv := by
  obtain ⟨i, u, -, hu, rfl⟩ := s.runInstruction_next k
  have executed : u.Inv := exec_inv hu ((fetches_started s i).inv h).wf
  exact (fetchDue_inv executed).congr rfl rfl rfl

/-- Settles O3, from what the host, an instruction and the end of reset exception handling leave behind. -/
theorem invariantKept : Obligations.InvariantKept := by
  intro s t h k
  unfold step at k
  split at k
  next u hu => cases k; exact (respond_inv h hu).congr rfl rfl rfl
  next =>
    split at k
    · exact runInstruction_inv h k
    · cases k; exact (finishReset_inv h.wf).congr rfl rfl rfl
    · cases k; exact h.congr rfl rfl rfl

/-- Settles O2: memory is empty and PC is 0. -/
theorem resetInvariant : Obligations.ResetInvariant :=
  ⟨rfl, by unfold State.PcFormed; decide⟩

/-! ### A step that runs an instruction -/

/-- Where the host leaves the CPU to run, a step is an instruction. -/
theorem step_eq_runInstruction (running : s.pstate = .programExecution)
    (idle : s.respond (s.host.headD .idle) = none) : step s = s.runInstruction := by
  unfold step
  rw [idle, running]

theorem runInstruction_of_next (decoded : decode s.fetchBytes = .ok i) (h : exec i (s.started i) = .next t) :
    s.runInstruction = .next t.fetchDue.tick := by
  unfold State.runInstruction
  rw [decoded]
  dsimp only
  rw [h]

theorem runInstruction_of_refused {r : Refusal} (decoded : decode s.fetchBytes = .ok i)
    (h : exec i (s.started i) = .refused r) : s.runInstruction = .refused r := by
  unfold State.runInstruction
  rw [decoded]
  dsimp only
  rw [h]

/-- The start of an instruction changes the inhibit, the word read ahead, the transcript and the draws. -/
theorem State.started_eq (s : State) (i : Instr) :
    s.started i = { s with
      irqInhibit := false
      prefetch := (s.started i).prefetch
      bus := (s.started i).bus
      draws := (s.started i).draws } := by
  obtain ⟨regs, pc, ccr, mem, pstate, par, ssby, host⟩ := fetches_started s i
  have inhibit := s.started_irqInhibit i
  generalize s.started i = u at *
  cases u
  simp_all

theorem State.started_prefetch_eq_none_iff (s : State) (i : Instr) :
    (s.started i).prefetch = none ↔ (nextRead i).held = false := by
  rw [s.started_prefetch]
  cases (nextRead i).held <;> simp

theorem State.started_prefetch_of_held (all : s.AllMemory) (held : (nextRead i).held = true) :
    (s.started i).prefetch = some (s.loadW (s.nextPc i)) := by
  rw [s.started_allMemory all, if_pos held]

theorem State.fetchDue_of_held (h : t.prefetch ≠ none) : t.fetchDue = t := by
  obtain ⟨w, hw⟩ := Option.ne_none_iff_exists'.mp h
  unfold State.fetchDue
  rw [hw]

theorem State.fetchDue_of_none (h : t.prefetch = none) : t.fetchDue = t.readAhead t.pc := by
  unfold State.fetchDue
  rw [h]

theorem recordRead_readAhead (s : State) (a : Addr) :
    RecordRead (s.wordAddr a) (.readWord (s.wordAddr a)) s (s.readAhead a) :=
  recordRead_congr (seeW_record s a) rfl rfl rfl rfl rfl

/-- A read cycle leaves traces in the transcript and the draws only. -/
theorem State.seeW_eq (s : State) (a : Addr) :
    s.seeW a = { s with bus := (s.seeW a).bus, draws := (s.seeW a).draws } := by
  unfold State.seeW State.seen
  split <;> rfl

theorem State.readAhead_eq (s : State) (a : Addr) :
    s.readAhead a =
      { s with prefetch := some (s.loadW a), bus := (s.readAhead a).bus, draws := (s.readAhead a).draws } := by
  conv_lhs => rw [State.readAhead, s.seeW_eq a]
  rfl

theorem State.tick_eq (h : u.host = t.host) :
    u.tick = { u with host := t.host.tail, draws := u.draws + 1 } := by
  rw [State.tick, h]

/-- Settles O10, from what is read before an instruction and the one fetch that may be due after it. -/
theorem stepRunsInstruction : Obligations.StepRunsInstruction := by
  intro s i running idle decoded _
  refine ⟨recordReads_started s i, s.started_eq i, s.started_prefetch_eq_none_iff i,
    State.started_prefetch_of_held, fun t h => ⟨t.fetchDue, ?_, State.fetchDue_of_held, fun unread => ?_⟩,
    fun r h => ?_⟩
  · rw [step_eq_runInstruction running idle, runInstruction_of_next decoded h, State.tick_eq t.fetchDue_host]
  · rw [State.fetchDue_of_none unread]
    exact ⟨recordRead_readAhead t t.pc, t.readAhead_eq t.pc⟩
  · rw [step_eq_runInstruction running idle, runInstruction_of_refused decoded h]

/-! ### Addresses -/

theorem even_eq_self_iff {a : Addr} : even a = a ↔ a.getLsbD 0 = false := by
  have mask : 0xFFFFFE#24 = ~~~1#24 := rfl
  unfold even
  rw [mask]
  constructor
  · intro h
    rw [← h]
    simp
  · intro h
    ext k hk
    cases k with
    | zero => simpa using h
    | succ k =>
      rw [BitVec.getElem_and, BitVec.getElem_not]
      simp

theorem even_add_two {a : Addr} (h : even a = a) : even (a + 2#24) = a + 2#24 := by
  rw [even_eq_self_iff] at h ⊢
  simpa [BitVec.getElem_add] using h

/-- The byte after an even address is in the same word. -/
theorem even_add_one {a : Addr} (h : even a = a) : even (a + 1#24) = a := by
  have disjoint : a &&& 1#24 = 0#24 := by
    rw [← h, even, BitVec.and_assoc]
    simp
  rw [BitVec.add_eq_or_of_and_eq_zero _ _ disjoint]
  conv_rhs => rw [← h]
  unfold even
  rw [BitVec.and_or_distrib_right]
  simp

theorem State.wordAddr_succ (s : State) (a : Addr) : s.wordAddr (s.red (s.wordAddr a + 1#24)) = s.wordAddr a := by
  have isEven : even (s.wordAddr a) = s.wordAddr a := even_even _
  calc s.wordAddr (s.red (s.wordAddr a + 1#24))
      = s.red (even (s.wordAddr a + 1#24)) := by rw [State.wordAddr, s.red_red, ← s.red_even]
    _ = s.red (even (s.wordAddr a)) := by rw [even_add_one isEven, isEven]
    _ = s.wordAddr a := by rw [s.red_even]; exact s.wordAddr_wordAddr a

theorem State.red_red_add (s : State) (a b : Addr) : s.red (s.red a + b) = s.red (a + b) := by
  unfold State.red
  split
  · have low (n : Nat) : n &&& 65535 = n % 65536 := Nat.and_two_pow_sub_one_eq_mod n 16
    apply BitVec.eq_of_toNat_eq
    simp only [BitVec.toNat_and, BitVec.toNat_add, BitVec.toNat_ofNat, low]
    omega
  · rfl

theorem State.PcFormed.even_pc (h : s.PcFormed) : even s.pc = s.pc := by
  rw [← h, State.pcForm, even_even]

/-! ### Words of ordinary memory -/

/-- A word is its byte at the even address and the byte after it (R82). -/
theorem State.loadW_allMemory (all : s.AllMemory) (a : Addr) :
    s.loadW a = s.mem.get (s.wordAddr a).toNat ++ s.mem.get (s.red (s.wordAddr a + 1#24)).toNat := by
  simp [State.loadW, State.kindAt_allMemory all]

/-- In ordinary memory a word is decided by memory and the parameters alone. -/
theorem State.loadW_congr_allMemory (all : s.AllMemory) (par : t.par = s.par) (memory : SameMemory s t) (a : Addr) :
    t.loadW a = s.loadW a := by
  have all' : t.AllMemory := all.congr par
  rw [State.loadW_allMemory all, State.loadW_allMemory all', State.wordAddr_congr par, State.red_congr par,
    memory, memory]

theorem State.loadW_wordAddr (s : State) (a : Addr) : s.loadW (s.wordAddr a) = s.loadW a := by
  unfold State.loadW
  rw [s.wordAddr_wordAddr]

/-- The two bytes of a word at an even address (R82). -/
theorem wordBytes_fetchWord (all : s.AllMemory) {a : Addr} (h : even a = a) :
    wordBytes (s.fetchWord a) = [s.mem.get (s.red a).toNat, s.mem.get (s.red (a + 1#24)).toNat] := by
  have aligned : s.wordAddr a = s.red a := by rw [State.wordAddr, ← s.red_even, h]
  rw [State.fetchWord, State.loadW_allMemory all, aligned, s.red_red_add, wordBytes,
    BitVec.extractLsb'_append_eq_left, BitVec.extractLsb'_append_eq_right]

/-- Words read one after the other are the bytes of memory in address order. -/
theorem wordsFrom_getElem? (all : s.AllMemory) (n k : Nat) (a : Addr) (h : even a = a) (hk : k < 2 * n) :
    (s.wordsFrom a n)[k]? = some (s.mem.get (s.red (a + BitVec.ofNat 24 k)).toNat) := by
  induction n generalizing a k with
  | zero => omega
  | succ n ih =>
    rw [State.wordsFrom, wordBytes_fetchWord all h, s.seeW_allMemory all]
    match k with
    | 0 => simp
    | 1 => simp
    | k + 2 =>
      have shifted : a + 2#24 + BitVec.ofNat 24 k = a + BitVec.ofNat 24 (k + 2) := by
        rw [BitVec.add_assoc, ← BitVec.ofNat_add, Nat.add_comm]
      simpa [shifted] using ih k (a + 2#24) (even_add_two h) (by omega)

/-- Where the word read ahead is the one in memory, the decoder is given five words from PC on. -/
theorem State.fetchBytes_eq_wordsFrom (all : s.AllMemory)
    (held : s.prefetch = none ∨ s.prefetch = some (s.loadW s.pc)) : s.fetchBytes = s.wordsFrom s.pc 5 := by
  have first : s.firstWord = s.fetchWord s.pc := by
    unfold State.firstWord
    obtain h | h := held <;> rw [h]
    rfl
  have opened : s.opened = s := by
    unfold State.opened
    split
    · rfl
    · exact s.seeW_allMemory all s.pc
  have words : s.wordsFrom s.pc 5 = wordBytes (s.fetchWord s.pc) ++ (s.seeW s.pc).wordsFrom (s.pc + 2#24) 4 := rfl
  rw [State.fetchBytes, first, opened, words, s.seeW_allMemory all]

/-- Settles O11: the ten bytes are those of five words in order. -/
theorem fetchBytesInOrder : Obligations.FetchBytesInOrder := by
  intro s all held formed k hk
  rw [State.fetchBytes_eq_wordsFrom all held]
  exact wordsFrom_getElem? all 5 k s.pc formed.even_pc hk

/-! ### A store and the words of memory -/

/-- What a word store puts into ordinary memory is read back. -/
theorem StoredW.loadW_same {a : Addr} {v : Word} (all : s.AllMemory) (par : t.par = s.par)
    (h : StoredW (s.wordAddr a) (upper v) (lower v) s t) : t.loadW a = v := by
  have all' : t.AllMemory := all.congr par
  rw [StoredW, State.kindAt_allMemory all] at h
  obtain ⟨high, low, -, -⟩ := h
  rw [State.loadW_allMemory all', State.wordAddr_congr par, State.red_congr par, high _ rfl, low _ rfl]
  exact (BitVec.extractLsb'_append_extractLsb'_eq_extractLsb' (show 8 = 0 + 8 from rfl)).trans
    BitVec.extractLsb'_eq_self

/-- A word store leaves every other word of ordinary memory alone. -/
theorem StoredW.loadW_ne {a b : Addr} {x y : Option Byte} (all : s.AllMemory) (par : t.par = s.par)
    (h : StoredW (s.wordAddr a) x y s t) (ne : s.wordAddr a ≠ s.wordAddr b) : t.loadW b = s.loadW b := by
  have all' : t.AllMemory := all.congr par
  rw [StoredW, State.kindAt_allMemory all] at h
  obtain ⟨-, -, others, -⟩ := h
  -- Each byte determines the word it is in, so no byte is in two words.
  have outside (c : Addr) (hc : s.wordAddr c = s.wordAddr b) : t.mem.get c.toNat = s.mem.get c.toNat := by
    apply others
    · intro same
      rw [BitVec.eq_of_toNat_eq same, s.wordAddr_wordAddr] at hc
      exact ne hc
    · intro same
      rw [BitVec.eq_of_toNat_eq same, s.wordAddr_succ] at hc
      exact ne hc
  rw [State.loadW_allMemory all', State.loadW_allMemory all, State.wordAddr_congr par, State.red_congr par,
    outside _ (s.wordAddr_wordAddr b), outside _ (s.wordAddr_succ b)]

/-! ### The word that runs next -/

theorem firstWord_of_some {w : Word} (h : s.prefetch = some w) : s.firstWord = w := by
  rw [State.firstWord, h]

/-- At the end of a step a word that was held is still the one that runs next. -/
theorem firstWord_fetchDue_tick_of_some {w : Word} (h : u.prefetch = some w) :
    u.fetchDue.tick.firstWord = w := by
  rw [State.fetchDue_of_held (by rw [h]; exact Option.some_ne_none w)]
  exact firstWord_of_some h

/-- Where no word is held, what runs next is read at PC. -/
theorem firstWord_fetchDue_tick_of_none (h : u.prefetch = none) :
    u.fetchDue.tick.firstWord = u.loadW u.pc := by
  rw [State.fetchDue_of_none h]
  exact firstWord_of_some rfl

theorem Continues.firstWord (all : s.AllMemory) (h : Continues i (s.started i) u) :
    u.fetchDue.tick.firstWord = if readsAhead i then s.loadW u.pc else u.loadW u.pc := by
  have all' : (s.started i).AllMemory := all.congr (s.started_par i)
  have next : (s.started i).nextPc i = s.nextPc i := State.next_congr (s.started_pc i) (s.started_par i) _
  have loads (a : Addr) : (s.started i).loadW a = s.loadW a :=
    State.loadW_congr_allMemory all (s.started_par i) (sameMemory_of (s.started_mem i)) a
  cases h with
  | held row pc prefetch =>
    rw [if_pos (by simp [readsAhead, row]), pc, next]
    exact firstWord_fetchDue_tick_of_some (prefetch.trans (State.started_prefetch_of_held all row))
  | taken row target pc prefetch =>
    rw [if_pos (by simp [readsAhead, row]), pc, State.pcForm_congr (s.started_par i),
      firstWord_fetchDue_tick_of_some prefetch, loads]
    exact (s.loadW_wordAddr target).symm
  | within row r par memory pc prefetch =>
    rw [if_pos (by simp [readsAhead, row]), pc, firstWord_fetchDue_tick_of_some prefetch,
      State.loadW_congr_allMemory all' par memory, loads]
  | late row target pc prefetch =>
    have due : (s.started i).prefetch = none := by
      rw [s.started_prefetch_eq_none_iff]
      simp_all [readsAhead]
    rw [row, firstWord_fetchDue_tick_of_none (prefetch all' due)]
    simp

/-- A step of a running CPU is what its instruction leaves, with the fetch that is due made. -/
theorem step_next_of_running (running : s.pstate = .programExecution)
    (idle : s.respond (s.host.headD .idle) = none) (decoded : decode s.fetchBytes = .ok i)
    (h : step s = .next t) : ∃ u, exec i (s.started i) = .next u ∧ t = u.fetchDue.tick := by
  rw [step_eq_runInstruction running idle] at h
  obtain ⟨j, u, hj, hu, ht⟩ := s.runInstruction_next h
  rw [decoded] at hj
  cases hj
  exact ⟨u, hu, ht⟩

theorem exec_started_par (h : exec i (s.started i) = .next u) : u.par = s.par :=
  (exec_par h).trans (s.started_par i)

/-- The end of a step changes no memory. -/
theorem fetchDue_tick_loadW (all : u.AllMemory) (a : Addr) : u.fetchDue.tick.loadW a = u.loadW a :=
  State.loadW_congr_allMemory (t := u.fetchDue.tick) all u.fetchDue_par (sameMemory_of u.fetchDue_mem) a

/-- What runs next was read before the instruction wrote memory, or is read after it. -/
theorem firstWord_after_step (all : s.AllMemory) (running : s.pstate = .programExecution)
    (idle : s.respond (s.host.headD .idle) = none) (decoded : decode s.fetchBytes = .ok i)
    (h : step s = .next t) : t.firstWord = if readsAhead i then s.loadW t.pc else t.loadW t.pc := by
  obtain ⟨u, hu, rfl⟩ := step_next_of_running running idle decoded h
  have all' : u.AllMemory := all.congr (exec_started_par hu)
  rw [fetchDue_tick_loadW all', State.tick_pc, State.fetchDue_pc]
  exact ((exec_continues i (s.started i)).of_eq hu).firstWord all

/-- What MOV.W Rs,@ERd leaves in the first word of what runs next. -/
theorem exec_movWStoreInd_loadW {rs : R16} {erd : ER} (all : s.AllMemory)
    (h : exec (.movWStoreInd rs erd) s = .next u) :
    u.pc = s.nextPc (.movWStoreInd rs erd) ∧
      (s.wordAddr (low24 (s.reg32 erd)) = u.pc → u.loadW u.pc = s.reg16 rs) ∧
      (s.wordAddr (low24 (s.reg32 erd)) ≠ u.pc → u.loadW u.pc = s.loadW u.pc) := by
  obtain ⟨v, hv, stored, -, -, -, pc, control⟩ := storeMovW_effect (.ind erd) rs 2 s
  cases hv.symm.trans h
  have par : u.par = s.par := control.samePlatform.par
  have pcWord : s.wordAddr u.pc = u.pc := by rw [pc]; exact s.wordAddr_wordAddr _
  refine ⟨pc, fun here => ?_, fun elsewhere => ?_⟩
  · rw [← here, ← State.wordAddr_congr par, State.loadW_wordAddr]
    exact StoredW.loadW_same all par stored
  · exact StoredW.loadW_ne all par stored (by rwa [pcWord])

/-- Settles O12, from where each instruction leaves the word that runs next, and what the one store of a word
leaves in memory. -/
theorem storeToNextWordNotSeen : Obligations.StoreToNextWordNotSeen := by
  refine ⟨fun _ _ _ => firstWord_after_step,
    fun s t rs erd all running idle decoded h => ?_⟩
  have first := firstWord_after_step all running idle decoded h
  obtain ⟨u, hu, rfl⟩ := step_next_of_running running idle decoded h
  have all' : u.AllMemory := all.congr (exec_started_par hu)
  rw [s.started_allMemory all] at hu
  obtain ⟨pc, stored, kept⟩ := exec_movWStoreInd_loadW (s := { s with irqInhibit := false, prefetch := _ }) all hu
  rw [fetchDue_tick_loadW all', State.tick_pc, State.fetchDue_pc] at *
  exact ⟨pc, first, stored, kept⟩

end Sys2Proof.Machine

/-! O14, O15, O43, O45 and O60: the accesses to ordinary memory, the effective addresses, the branches, jumps and
calls, and the states in which the CPU is stopped from outside. -/

namespace Sys2Proof.Machine

variable {s t u : State}

/-! ### Bytes, words and longwords of ordinary memory -/

theorem State.loadB_allMemory (all : s.AllMemory) (a : Addr) : s.loadB a = s.mem.get (s.red a).toNat := by
  simp [State.loadB, State.kindAt_allMemory all]

theorem State.red_wordAddr (s : State) (a : Addr) : s.red (s.wordAddr a) = s.wordAddr a := by
  rw [State.wordAddr, s.red_even, s.red_red]

/-- The next word stands at another address, at the end of the address space too. -/
theorem State.wordAddr_add_two_ne (s : State) (a : Addr) : s.wordAddr (s.wordAddr a + 2#24) ≠ s.wordAddr a := by
  have isEven : even (s.wordAddr a + 2#24) = s.wordAddr a + 2#24 := even_add_two (even_even _)
  have reduced : s.wordAddr (s.wordAddr a + 2#24) = s.red (s.wordAddr a + 2#24) := by
    rw [State.wordAddr, ← s.red_even, isEven]
  rw [reduced]
  intro same
  have wrapped := congrArg BitVec.toNat (same.trans (s.red_wordAddr a).symm)
  revert wrapped
  generalize s.wordAddr a = e
  unfold State.red
  split
  · have low (n : Nat) : n &&& 65535 = n % 65536 := Nat.and_two_pow_sub_one_eq_mod n 16
    simp only [BitVec.toNat_and, BitVec.toNat_add, BitVec.toNat_ofNat, low]
    omega
  · simp only [BitVec.toNat_add, BitVec.toNat_ofNat]
    omega

/-- A longword is the word at its even address and the word after it (R86). -/
theorem State.loadL_eq (s : State) (a : Addr) :
    s.loadL a = s.loadW (s.wordAddr a) ++ s.loadW (s.wordAddr (s.wordAddr a + 2#24)) := by
  rw [s.loadW_wordAddr, s.loadW_wordAddr, State.loadL]

theorem State.loadB_storeB (all : s.AllMemory) (a : Addr) (v : Byte) : (s.storeB a v).loadB a = v := by
  rw [State.loadB_allMemory (all.congr (s.storeB_par a v)), s.red_storeB]
  exact s.storeB_get_same (State.kindAt_allMemory all _) v

theorem State.loadW_storeW (all : s.AllMemory) (a : Addr) (v : Word) : (s.storeW a v).loadW a = v :=
  (storedW_storeW s a v).loadW_same all (s.storeW_par a v)

theorem State.loadW_storeW_ne (all : s.AllMemory) {a b : Addr} (v : Word) (ne : s.wordAddr a ≠ s.wordAddr b) :
    (s.storeW a v).loadW b = s.loadW b :=
  (storedW_storeW s a v).loadW_ne all (s.storeW_par a v) ne

/-- The more significant byte of a stored word is at the even address (R82). -/
theorem State.loadB_storeW (all : s.AllMemory) (a : Addr) (v : Word) :
    (s.storeW a v).loadB (s.wordAddr a) = v.extractLsb' 8 8 := by
  have stored := storedW_storeW s a v
  rw [StoredW, State.kindAt_allMemory all] at stored
  obtain ⟨high, -⟩ := stored
  rw [State.loadB_allMemory (all.congr (s.storeW_par a v)), s.red_storeW, s.red_wordAddr]
  exact high _ rfl

/-- The second word of a stored longword. -/
theorem State.loadW_storeL_lower (all : s.AllMemory) (a : Addr) (v : Long) :
    (s.storeL a v).loadW (s.wordAddr a + 2#24) = v.extractLsb' 0 16 :=
  State.loadW_storeW (all.congr (s.storeW_par a _)) _ _

/-- The first word of a stored longword is not overwritten by the second. -/
theorem State.loadW_storeL_upper (all : s.AllMemory) (a : Addr) (v : Long) :
    (s.storeL a v).loadW a = v.extractLsb' 16 16 := by
  have apart : (s.storeW a (v.extractLsb' 16 16)).wordAddr (s.wordAddr a + 2#24) ≠
      (s.storeW a (v.extractLsb' 16 16)).wordAddr a := by
    simpa using s.wordAddr_add_two_ne a
  rw [State.storeL, State.loadW_storeW_ne (all.congr (s.storeW_par a _)) _ apart, State.loadW_storeW all]

theorem State.loadL_storeL (all : s.AllMemory) (a : Addr) (v : Long) : (s.storeL a v).loadL a = v := by
  rw [State.loadL, State.loadW_storeL_upper all, s.wordAddr_storeL, State.loadW_storeL_lower all]
  exact (BitVec.extractLsb'_append_extractLsb'_eq_extractLsb' (show 16 = 0 + 16 from rfl)).trans
    BitVec.extractLsb'_eq_self

/-- Bytes outside the four a longword store addresses are as before. -/
theorem State.storeL_get_ne (s : State) {a : Addr} {x : Nat} (v : Long) (h0 : x ≠ (s.wordAddr a).toNat)
    (h1 : x ≠ (s.red (s.wordAddr a + 1#24)).toNat) (h2 : x ≠ (s.wordAddr (s.wordAddr a + 2#24)).toNat)
    (h3 : x ≠ (s.red (s.wordAddr (s.wordAddr a + 2#24) + 1#24)).toNat) :
    (s.storeL a v).mem.get x = s.mem.get x := by
  rw [State.storeL, State.storeW_get_ne _ (by simpa using h2) (by simpa using h3), s.storeW_get_ne h0 h1]

/-- Settles O14, from what each load reads and what each store puts in and leaves alone. -/
theorem memoryAccess : Obligations.MemoryAccess := by
  intro s a all e e2
  have lower (v : Long) : (s.storeL a v).loadW e2 = v.extractLsb' 0 16 := by
    have second : (s.storeL a v).wordAddr (s.wordAddr a + 2#24) = e2 := s.wordAddr_storeL a v _
    rw [← second, State.loadW_wordAddr, State.loadW_storeL_lower all]
  exact ⟨State.loadB_allMemory all a, State.loadW_allMemory all a, s.loadL_eq a,
    fun v => ⟨State.loadB_storeB all a v, fun _ h => s.storeB_get_ne h v⟩,
    fun v => ⟨State.loadW_storeW all a v, State.loadB_storeW all a v, fun _ h0 h1 => s.storeW_get_ne h0 h1 v⟩,
    fun v => ⟨State.loadL_storeL all a v, lower v, fun _ => s.storeL_get_ne v⟩⟩

/-! ### Effective addresses -/

/-- Settles O15: the addresses are those of the definition, and a step writes one register. -/
theorem effectiveAddresses : Obligations.EffectiveAddresses := by
  intro s n k d16 a16 d24 a24 a8
  refine ⟨rfl, rfl, rfl, rfl, rfl, rfl, rfl, rfl, ?_, ?_, fun m other => ⟨?_, ?_⟩, rfl, rfl, rfl, rfl, rfl, rfl⟩
  · exact s.reg32_setReg32_same n _
  · exact s.reg32_setReg32_same n _
  · exact s.reg32_setReg32_ne other _
  · exact s.reg32_setReg32_ne other _

/-! ### Conditional branches -/

theorem Cond.holds_ge (s : State) : Cond.ge.holds s = !xor (s.flag .n) (s.flag .v) :=
  (Bool.not_not (s.flag .n == s.flag .v)).symm

theorem Cond.holds_gt (s : State) : Cond.gt.holds s = !(s.flag .z || xor (s.flag .n) (s.flag .v)) := by
  rw [Bool.not_or, ← Cond.holds_ge]
  rfl

theorem runs_branchShort {i : Instr} (c : Cond) {b : Bool} {d : Addr} (meaning : exec i s = branchShort c d s)
    (length : i.length = 2) (holds : c.holds s = b) : Runs i s (BranchesShort b d) := by
  have next : s.nextPc i = s.next 2 := by rw [State.nextPc, length, State.next]
  rw [Runs, meaning, next, ← holds]
  exact branchShort_effect c d s

theorem runs_branch {i : Instr} (c : Cond) {b : Bool} {d : Addr} (meaning : exec i s = branch c d s)
    (length : i.length = 4) (holds : c.holds s = b) : Runs i s (Branches b d) := by
  have next : s.nextPc i = s.next 4 := by rw [State.nextPc, length, State.next]
  rw [Runs, meaning, next, ← holds]
  exact branch_effect c d s

/-- Settles O43: each form is the shared branch on its condition, and the condition reads as R471 has it. -/
theorem conditionalBranches : Obligations.ConditionalBranches := by
  intro s
  exact
    ⟨fun _ => runs_branchShort .ra rfl rfl rfl, fun _ => runs_branch .ra rfl rfl rfl,
      fun _ => runs_branchShort .rn rfl rfl rfl, fun _ => runs_branch .rn rfl rfl rfl,
      fun _ => runs_branchShort .hi rfl rfl rfl, fun _ => runs_branch .hi rfl rfl rfl,
      fun _ => runs_branchShort .ls rfl rfl rfl, fun _ => runs_branch .ls rfl rfl rfl,
      fun _ => runs_branchShort .cc rfl rfl rfl, fun _ => runs_branch .cc rfl rfl rfl,
      fun _ => runs_branchShort .cs rfl rfl rfl, fun _ => runs_branch .cs rfl rfl rfl,
      fun _ => runs_branchShort .ne rfl rfl rfl, fun _ => runs_branch .ne rfl rfl rfl,
      fun _ => runs_branchShort .eq rfl rfl rfl, fun _ => runs_branch .eq rfl rfl rfl,
      fun _ => runs_branchShort .vc rfl rfl rfl, fun _ => runs_branch .vc rfl rfl rfl,
      fun _ => runs_branchShort .vs rfl rfl rfl, fun _ => runs_branch .vs rfl rfl rfl,
      fun _ => runs_branchShort .pl rfl rfl rfl, fun _ => runs_branch .pl rfl rfl rfl,
      fun _ => runs_branchShort .mi rfl rfl rfl, fun _ => runs_branch .mi rfl rfl rfl,
      fun _ => runs_branchShort .ge rfl rfl (Cond.holds_ge s), fun _ => runs_branch .ge rfl rfl (Cond.holds_ge s),
      fun _ => runs_branchShort .lt rfl rfl rfl, fun _ => runs_branch .lt rfl rfl rfl,
      fun _ => runs_branchShort .gt rfl rfl (Cond.holds_gt s), fun _ => runs_branch .gt rfl rfl (Cond.holds_gt s),
      fun _ => runs_branchShort .le rfl rfl rfl, fun _ => runs_branch .le rfl rfl rfl⟩

/-! ### Jumps and calls -/

/-- JMP @@aa:8 (R476). -/
theorem jumpThrough_effect (pointer n : Addr) (s : State) :
    GoesThrough pointer s n ((s.seePointer pointer).jump (s.loadPointer pointer)) :=
  ⟨by simp, sameRegs_of (by simp), by simp, fun a => by simp,
    sameControl_of (by simp) (by simp) (by simp) (by simp) (by simp) (by simp), rfl, rfl⟩

/-- RTS steps SP by the size of a stored code address (R480). -/
theorem rts_effect (n : Addr) (s : State) : ∃ t, execRts s = .next t ∧ ReturnsFromSubroutine s n t := by
  refine ⟨_, rfl, wrote32_of ?_, by simp, by simp, fun a => by simp,
    sameControl_of (by simp) (by simp) (by simp) (by simp) (by simp) (by simp), rfl, rfl⟩
  rw [State.jump_regs, State.setReg32_regs, State.setReg32_regs, State.seePointer_regs, State.pointerSize]
  cases s.par.mode <;> rfl

/-- Settles O45: each form is a shared jump, call or return. -/
theorem jumpsAndCalls : Obligations.JumpsAndCalls := by
  intro s
  exact ⟨fun ern => ⟨_, rfl, jump_effect _ s _⟩, fun aa => ⟨_, rfl, jump_effect aa s _⟩,
    fun aa => ⟨_, rfl, jumpThrough_effect _ _ s⟩,
    fun d => callDirect_effect (s.next 2 + d.signExtend 24) 2 s,
    fun d => callDirect_effect (s.next 4 + d.signExtend 24) 4 s,
    fun ern => callDirect_effect (low24 (s.reg32 ern)) 2 s, fun aa => callDirect_effect aa 4 s,
    fun aa => callThrough_effect (aa.setWidth 24) 2 s, rts_effect _ s⟩

/-! ### Steps in which no instruction runs -/

theorem step_of_respond (h : s.respond (s.host.headD .idle) = some u) : step s = .next u.tick := by
  rw [step, h]

/-- A CPU that is stopped does nothing on its own. -/
theorem step_of_stopped (h : s.respond (s.host.headD .idle) = none) (stopped : s.pstate ≠ .programExecution)
    (noException : s.pstate ≠ .exceptionHandling) : step s = .next s.tick := by
  rw [step, h]
  split <;> simp_all

theorem headD_of_cons {e : HostEvent} {rest : List HostEvent} (h : s.host = e :: rest) :
    s.host.headD .idle = e := by
  rw [h, List.headD_cons]

theorem head?_of_headD {events : List HostEvent} {e : HostEvent} (h : events.headD .idle = e) (ne : e ≠ .idle) :
    events.head? = some e := by
  cases events with
  | nil => exact absurd h.symm ne
  | cons d rest => exact congrArg some h

/-- An empty schedule has no effect either. -/
theorem respond_headD_eq_none (h : ∀ e : HostEvent, s.host.head? = some e → s.respond e = none) :
    s.respond (s.host.headD .idle) = none := by
  cases events : s.host with
  | nil => rfl
  | cons e rest => exact h e (by rw [events, List.head?_cons])

/-- The step in which the host does something that has an effect. -/
theorem step_of_host {e : HostEvent} {rest : List HostEvent} (h : s.host = e :: rest) (k : s.respond e = some u)
    (kept : u.host = s.host) : step s = .next { u with host := rest, draws := u.draws + 1 } := by
  rw [step_of_respond ((congrArg s.respond (headD_of_cons h)).trans k), State.tick_eq kept, h, List.tail_cons]

/-! ### Hardware standby -/

theorem enterReset_flag_i (s : State) : s.enterReset.flag .i = true :=
  calc s.enterReset.flag .i
      = (s.setFlag .i true).flag .i := rfl
    _ = true := by rw [State.flag_setFlag, if_pos rfl]

theorem respond_stbyHigh (standby : s.pstate = .hardwareStandby) :
    s.respond .stbyHigh = some s.enterReset := if_pos standby

/-- In hardware standby the host reaches only the platform register, until STBY goes High. -/
theorem respond_hardwareStandby {e : HostEvent} (standby : s.pstate = .hardwareStandby)
    (h : s.respond e = some u) :
    u.mem = s.mem ∧ (u.pstate = .hardwareStandby ∨ e = .stbyHigh ∧ u.pstate = .reset) := by
  cases e with
  | stbyLow => cases h; exact ⟨rfl, .inl rfl⟩
  | setSsby b => cases h; exact ⟨rfl, .inl standby⟩
  | stbyHigh =>
    rw [respond_stbyHigh standby] at h
    cases h
    exact ⟨rfl, .inr ⟨rfl, rfl⟩⟩
  | idle | nmiDuringBlock => cases h
  | request | resLow | resHigh | busRequest | busEnd | masterWrite =>
    simp [State.respond, State.takes, PState.busHolder?, standby] at h

theorem step_hardwareStandby (standby : s.pstate = .hardwareStandby) (h : step s = .next t) :
    t.mem = s.mem ∧
      (t.pstate = .hardwareStandby ∨ s.host.head? = some .stbyHigh ∧ t.pstate = .reset) := by
  cases k : s.respond (s.host.headD .idle) with
  | none =>
    rw [step_of_stopped k (by rw [standby]; decide) (by rw [standby]; decide)] at h
    cases h
    exact ⟨rfl, .inl standby⟩
  | some u =>
    rw [step_of_respond k] at h
    cases h
    obtain ⟨mem, state⟩ := respond_hardwareStandby standby k
    exact ⟨mem, state.imp id fun ⟨high, reset⟩ => ⟨head?_of_headD high (by decide), reset⟩⟩

/-! ### The released bus -/

theorem busHolder?_state (h : BusHolder) : h.state.busHolder? = some h := by
  cases h <;> rfl

theorem respond_busRequest {h : BusHolder} (state : s.pstate = h.state) :
    s.respond .busRequest = some { s with pstate := .busReleased h } := by
  rw [State.respond, state, busHolder?_state]

theorem respond_busEnd {h : BusHolder} (released : s.pstate = .busReleased h) :
    s.respond .busEnd = some { s with pstate := h.state } := by
  rw [State.respond, released]

theorem respond_masterWrite {h : BusHolder} (released : s.pstate = .busReleased h) (a : Addr) (v : Byte) :
    s.respond (.masterWrite a v) = some (s.masterWrites a v) := by
  rw [State.respond, released]

/-- What has no effect while another master has the bus. -/
theorem respond_busReleased_none {h : BusHolder} {e : HostEvent} (released : s.pstate = .busReleased h)
    (ineffective : e = .idle ∨ e = .busRequest ∨ (∃ r, e = .request r) ∨ ∃ k, e = .nmiDuringBlock k) :
    s.respond e = none := by
  obtain rfl | rfl | ⟨r, rfl⟩ | ⟨k, rfl⟩ := ineffective
  · rfl
  · rw [State.respond, released]
    rfl
  · simp [State.respond, State.takes, released]
  · rfl

theorem step_busReleased {h : BusHolder} (released : s.pstate = .busReleased h)
    (ineffective : ∀ e : HostEvent, s.host.head? = some e → s.respond e = none) : step s = .next s.tick :=
  step_of_stopped (respond_headD_eq_none ineffective) (by simp [released]) (by simp [released])

/-- Another master writes memory and nothing else. -/
theorem masterWrites_eq (s : State) (a : Addr) (v : Byte) :
    s.masterWrites a v = { s with mem := (s.masterWrites a v).mem } := by
  unfold State.masterWrites
  split <;> rfl

theorem masterWrites_get (a : Addr) (v : Byte) (memory : s.kindAt (s.red a) = none) (x : Nat) :
    (s.masterWrites a v).mem.get x = if x = (s.red a).toNat then v else s.mem.get x := by
  rw [State.masterWrites, memory]
  exact Memory.get_set s.mem _ x v

theorem masterWrites_mem_of_window (a : Addr) (v : Byte) (window : s.kindAt (s.red a) ≠ none) :
    (s.masterWrites a v).mem = s.mem := by
  unfold State.masterWrites
  split
  · exact absurd ‹_› window
  · rfl

/-- Settles O60, clause by clause from what the host's action does in the state the CPU is stopped in. -/
theorem stoppedStates : Obligations.StoppedStates := by
  refine ⟨fun s rest low => ⟨_, step_of_host low rfl rfl, rfl, rfl⟩, fun s t => step_hardwareStandby,
    fun s rest standby high => ⟨_, step_of_host high (respond_stbyHigh standby) rfl, rfl, enterReset_flag_i s, rfl⟩,
    fun s h rest state request => step_of_host request (respond_busRequest state) rfl,
    fun s h released ineffective =>
      step_busReleased released fun e first => respond_busReleased_none released (ineffective e first),
    fun s h rest released done => step_of_host done (respond_busEnd released) rfl,
    fun s h a v rest released write => ⟨_, step_of_host write (respond_masterWrite released a v) ?_, ?_, ?_, ?_⟩⟩
  · exact (masterWrites_samePlatform s a v).host
  · rw [masterWrites_eq]
  · intro memory
    exact ⟨by simp [masterWrites_get a v memory], fun x other => by simp [masterWrites_get a v memory, other]⟩
  · exact masterWrites_mem_of_window a v

end Sys2Proof.Machine


/-! O6 to O9: decoding and encoding. First what the fields of a code give back (R122 to R129), then that every
code decodes to its instruction, and that whatever decodes begins with the code of its instruction. -/

namespace Sys2Proof

/-! ### Fields of a code -/

@[simp] theorem hi_pack (h l : Nibble) : hi (pack h l) = h := BitVec.extractLsb'_append_eq_left

@[simp] theorem lo_pack (h l : Nibble) : lo (pack h l) = l := BitVec.extractLsb'_append_eq_right

@[simp] theorem pack_hi_lo (b : Byte) : pack (hi b) (lo b) = b :=
  (BitVec.extractLsb'_append_extractLsb'_eq_extractLsb' (by rfl)).trans BitVec.extractLsb'_eq_self

theorem pack_eq_iff {h l : Nibble} {b : Byte} : pack h l = b ↔ h = hi b ∧ l = lo b := by
  constructor
  · rintro rfl
    simp
  · rintro ⟨rfl, rfl⟩
    exact pack_hi_lo b

/-- The nibbles of a byte that is written as a number, and the byte of two such nibbles: with these `simp`
reads the fixed bytes of a code. -/
@[simp] theorem hi_ofNat (n : Nat) : hi (BitVec.ofNat 8 n) = BitVec.ofNat 4 (n / 16) := by
  apply BitVec.eq_of_toNat_eq
  simp [hi, Nat.shiftRight_eq_div_pow]
  omega

@[simp] theorem lo_ofNat (n : Nat) : lo (BitVec.ofNat 8 n) = BitVec.ofNat 4 n := by
  apply BitVec.eq_of_toNat_eq
  simp [lo]

@[simp] theorem pack_ofNat (h l : Nat) :
    pack (BitVec.ofNat 4 h) (BitVec.ofNat 4 l) = BitVec.ofNat 8 (h % 16 * 16 + l % 16) := by
  apply BitVec.eq_of_toNat_eq
  have low : l % 16 < 2 ^ 4 := by omega
  rw [pack, BitVec.toNat_append, BitVec.toNat_ofNat, BitVec.toNat_ofNat, BitVec.toNat_ofNat,
    ← Nat.shiftLeft_add_eq_or_of_lt low, Nat.shiftLeft_eq]
  omega

/-- The sixteen values of a nibble. -/
theorem Nibble.cases {motive : Nibble → Prop} (n : Nibble) (zero : motive 0#4) (one : motive 1#4)
    (two : motive 2#4) (three : motive 3#4) (four : motive 4#4) (five : motive 5#4) (six : motive 6#4)
    (seven : motive 7#4) (eight : motive 8#4) (nine : motive 9#4) (ten : motive 10#4) (eleven : motive 11#4)
    (twelve : motive 12#4) (thirteen : motive 13#4) (fourteen : motive 14#4) (fifteen : motive 15#4) :
    motive n := by
  obtain ⟨k, hk⟩ := n
  interval_cases k <;> assumption

/-! ### Registers and bit numbers (R124, R126) -/

@[simp] theorem top_code (e : ER) : top e.code = false := by cases e <;> rfl

@[simp] theorem top_code1 (e : ER) : top e.code1 = true := by cases e <;> rfl

@[simp] theorem erLow_code (e : ER) : erLow e.code = e := by cases e <;> rfl

@[simp] theorem erLow_code1 (e : ER) : erLow e.code1 = e := by cases e <;> rfl

@[simp] theorem r8_code (r : R8) : r8 r.code = r := by cases r <;> simp [r8, R8.code]

@[simp] theorem r16_code (r : R16) : r16 r.code = r := by cases r <;> simp [r16, R16.code]

@[simp] theorem top_bit0 (n : BitVec 3) : top (bit0 n) = false := by decide +revert

@[simp] theorem top_bit1 (n : BitVec 3) : top (bit1 n) = true := by decide +revert

@[simp] theorem imm3_bit0 (n : BitVec 3) : imm3 (bit0 n) = n := by decide +revert

@[simp] theorem imm3_bit1 (n : BitVec 3) : imm3 (bit1 n) = n := by decide +revert

@[simp] theorem extract_trapNibble_upper (x : BitVec 2) : (trapNibble x).extractLsb' 2 2 = 0#2 := by decide +revert

@[simp] theorem extract_trapNibble_lower (x : BitVec 2) : (trapNibble x).extractLsb' 0 2 = x := by decide +revert

theorem code1_ne_zero (e : ER) : e.code1 ≠ 0#4 := by cases e <;> decide

theorem code_erLow {f : Nibble} (h : top f = false) : (erLow f).code = f := by decide +revert

theorem code1_erLow {f : Nibble} (h : top f = true) : (erLow f).code1 = f := by decide +revert

theorem bit0_imm3 {f : Nibble} (h : top f = false) : bit0 (imm3 f) = f := by decide +revert

theorem bit1_imm3 {f : Nibble} (h : top f = true) : bit1 (imm3 f) = f := by decide +revert

theorem trapNibble_extract {f : Nibble} (h : f.extractLsb' 2 2 = 0#2) : trapNibble (f.extractLsb' 0 2) = f := by
  decide +revert

@[simp] theorem code_r8 (f : Nibble) : (r8 f).code = f := by decide +revert

@[simp] theorem code_r16 (f : Nibble) : (r16 f).code = f := by decide +revert

theorem code_or_code1 (f : Nibble) : (∃ e : ER, f = e.code) ∨ ∃ e : ER, f = e.code1 := by
  cases h : top f
  · exact .inl ⟨erLow f, (code_erLow h).symm⟩
  · exact .inr ⟨erLow f, (code1_erLow h).symm⟩

/-! ### Bytes of the rest of a code, and the fields of two, three and four bytes (R126 to R128) -/

@[simp] theorem codeByte_cons_zero (b : Byte) (t : List Byte) : codeByte (b :: t) 0 = b := rfl

@[simp] theorem codeByte_cons_succ (b : Byte) (t : List Byte) (n : Nat) :
    codeByte (b :: t) (n + 1) = codeByte t n := rfl

@[simp] theorem codeByte_drop (t : List Byte) (m n : Nat) : codeByte (t.drop m) n = codeByte t (m + n) := by
  simp [codeByte, List.getD_eq_getElem?_getD]

@[simp] theorem word24_cons (b : Byte) (t : List Byte) (n : Nat) : word24 (b :: t) (n + 1) = word24 t n := rfl

@[simp] theorem ext24?_cons (b : Byte) (t : List Byte) (n : Nat) (k : BitVec 24 → Option Instr) :
    ext24? (b :: t) (n + 1) k = ext24? t n k := rfl

/-- A byte of a value and what is below it. -/
theorem extractLsb'_append_low {w n : Nat} (v : BitVec w) :
    v.extractLsb' n 8 ++ v.extractLsb' 0 n = v.extractLsb' 0 (8 + n) :=
  BitVec.extractLsb'_append_extractLsb'_eq_extractLsb' (Nat.zero_add n).symm

@[simp] theorem word16_byteOf (v : BitVec 16) (t : List Byte) : word16 (byteOf v 1 :: byteOf v 0 :: t) 0 = v :=
  (extractLsb'_append_low v).trans BitVec.extractLsb'_eq_self

@[simp] theorem word24_byteOf (v : BitVec 24) (t : List Byte) :
    word24 (byteOf v 2 :: byteOf v 1 :: byteOf v 0 :: t) 0 = v :=
  (congrArg (byteOf v 2 ++ ·) (extractLsb'_append_low v)).trans <|
    (extractLsb'_append_low v).trans BitVec.extractLsb'_eq_self

/-- The absolute address of JMP and JSR, whose first byte is the second byte of the code. -/
@[simp] theorem byteOf_append_word16 (v : BitVec 24) (t : List Byte) :
    byteOf v 2 ++ word16 (byteOf v 1 :: byteOf v 0 :: t) 0 = v := word24_byteOf v t

@[simp] theorem word32_byteOf (v : BitVec 32) (t : List Byte) :
    word32 (byteOf v 3 :: byteOf v 2 :: byteOf v 1 :: byteOf v 0 :: t) 0 = v := by
  have upper : byteOf v 3 ++ byteOf v 2 = v.extractLsb' 16 16 :=
    BitVec.extractLsb'_append_extractLsb'_eq_extractLsb' rfl
  have lower : byteOf v 1 ++ byteOf v 0 = v.extractLsb' 0 16 := extractLsb'_append_low v
  have whole : v.extractLsb' 16 16 ++ v.extractLsb' 0 16 = v.extractLsb' 0 32 :=
    BitVec.extractLsb'_append_extractLsb'_eq_extractLsb' rfl
  change (byteOf v 3 ++ byteOf v 2) ++ (byteOf v 1 ++ byteOf v 0) = v
  rw [upper, lower, whole, BitVec.extractLsb'_eq_self]

@[simp] theorem ext24?_byteOf (v : BitVec 24) (t : List Byte) (k : BitVec 24 → Option Instr) :
    ext24? (0#8 :: byteOf v 2 :: byteOf v 1 :: byteOf v 0 :: t) 0 k = k v := by
  simp [ext24?]

@[simp] theorem byteOf_word16_one (t : List Byte) (n : Nat) : byteOf (word16 t n) 1 = codeByte t n :=
  BitVec.extractLsb'_append_eq_left

@[simp] theorem byteOf_word16_zero (t : List Byte) (n : Nat) : byteOf (word16 t n) 0 = codeByte t (n + 1) :=
  BitVec.extractLsb'_append_eq_right

@[simp] theorem byteOf_word24_two (t : List Byte) (n : Nat) : byteOf (word24 t n) 2 = codeByte t n :=
  BitVec.extractLsb'_append_eq_left

@[simp] theorem byteOf_word24_one (t : List Byte) (n : Nat) : byteOf (word24 t n) 1 = codeByte t (n + 1) := by
  rw [← byteOf_word16_one, byteOf, byteOf, word24]
  exact BitVec.extractLsb'_append_eq_of_add_le (by decide)

@[simp] theorem byteOf_word24_zero (t : List Byte) (n : Nat) : byteOf (word24 t n) 0 = codeByte t (n + 2) := by
  rw [← byteOf_word16_zero, byteOf, byteOf, word24]
  exact BitVec.extractLsb'_append_eq_of_add_le (by decide)

@[simp] theorem byteOf_word32_three (t : List Byte) (n : Nat) : byteOf (word32 t n) 3 = codeByte t n := by
  rw [← byteOf_word16_one, byteOf, byteOf, word32]
  exact BitVec.extractLsb'_append_eq_of_le (by decide)

@[simp] theorem byteOf_word32_two (t : List Byte) (n : Nat) : byteOf (word32 t n) 2 = codeByte t (n + 1) := by
  rw [← byteOf_word16_zero, byteOf, byteOf, word32]
  exact BitVec.extractLsb'_append_eq_of_le (by decide)

@[simp] theorem byteOf_word32_one (t : List Byte) (n : Nat) : byteOf (word32 t n) 1 = codeByte t (n + 2) := by
  rw [← byteOf_word16_one, byteOf, byteOf, word32]
  exact BitVec.extractLsb'_append_eq_of_add_le (by decide)

@[simp] theorem byteOf_word32_zero (t : List Byte) (n : Nat) : byteOf (word32 t n) 0 = codeByte t (n + 3) := by
  rw [← byteOf_word16_zero (n := n + 2), byteOf, byteOf, word32]
  exact BitVec.extractLsb'_append_eq_of_add_le (by decide)

/-! ### The decoder's readers of one field, on the code of a field -/

@[simp] theorem er0?_code (e : ER) (k : ER → Instr) : er0? e.code k = some (k e) := by simp [er0?]

@[simp] theorem loadOrStore_code (e : ER) (load store : ER → Instr) :
    loadOrStore e.code load store = some (load e) := by simp [loadOrStore]

@[simp] theorem loadOrStore_code1 (e : ER) (load store : ER → Instr) :
    loadOrStore e.code1 load store = some (store e) := by simp [loadOrStore]

@[simp] theorem imm3?_bit0 (n : BitVec 3) (k : BitVec 3 → Instr) : imm3? (bit0 n) k = some (k n) := by simp [imm3?]

@[simp] theorem imm3Either_bit0 (n : BitVec 3) (plain inverting : BitVec 3 → Instr) :
    imm3Either (bit0 n) plain inverting = some (plain n) := by simp [imm3Either]

@[simp] theorem imm3Either_bit1 (n : BitVec 3) (plain inverting : BitVec 3 → Instr) :
    imm3Either (bit1 n) plain inverting = some (inverting n) := by simp [imm3Either]

@[simp] theorem zero?_zero (k : Option Instr) : zero? 0#4 k = k := rfl

theorem zero?_of_ne {f : Nibble} (h : f ≠ 0) (k : Option Instr) : zero? f k = none := if_neg h

/-! ### Lengths, and the instruction at the head of a list -/

theorem length_encode (i : Instr) : (encode i).length = i.length := by cases i <;> rfl

theorem length_mem (i : Instr) : i.length ∈ [2, 4, 6, 8, 10] := by cases i <;> exact List.elem_iff.mp rfl

/-- The instruction the decoder finds at the head of a list, whether or not the list holds all of it. -/
noncomputable def headInstr : List Byte → Option Instr
  | b0 :: b1 :: t => decodeCode b0 b1 t
  | _ => none

@[simp] theorem headInstr_cons (b0 b1 : Byte) (t : List Byte) : headInstr (b0 :: b1 :: t) = decodeCode b0 b1 t := rfl

theorem decode_eq_ok_iff {bytes : List Byte} {i : Instr} :
    decode bytes = .ok i ↔ headInstr bytes = some i ∧ i.length ≤ bytes.length := by
  match bytes with
  | [] | [_] => simp [decode, headInstr]
  | b0 :: b1 :: t =>
    rw [decode, headInstr_cons]
    cases decodeCode b0 b1 t with
    | none => simp
    | some j =>
      by_cases fits : j.length ≤ (b0 :: b1 :: t).length
      · simp only [if_pos fits, Except.ok.injEq, Option.some.injEq]
        exact ⟨fun h => ⟨h, h ▸ fits⟩, And.left⟩
      · simp only [if_neg fits, Option.some.injEq, reduceCtorEq, false_iff]
        exact fun ⟨h, k⟩ => fits (h ▸ k)

/-! ### Every code decodes to its instruction -/

/-! The codes of `MOV @ERs+` and `MOV @-ERd` in word and longword size, which for ER7 are POP and PUSH (R161). -/

theorem decode6_postInc {e : ER} (h : e ≠ .er7) (bl : Nibble) (t : List Byte) :
    decode6 13#4 e.code bl t = some (.movWLoadInc e (r16 bl)) := by
  cases e with
  | er7 => exact absurd rfl h
  | _ => rfl

theorem decode6_preDec {e : ER} (h : e ≠ .er7) (bl : Nibble) (t : List Byte) :
    decode6 13#4 e.code1 bl t = some (.movWStoreDec (r16 bl) e) := by
  cases e with
  | er7 => exact absurd rfl h
  | _ => rfl

theorem decodeMovL_postInc {e : ER} (h : e ≠ .er7) (cl : Nibble) (t : List Byte) :
    decodeMovL 0x6D#8 e.code cl t = er0? cl (.movLLoadInc e) := by
  cases e with
  | er7 => exact absurd rfl h
  | _ => rfl

theorem decodeMovL_preDec {e : ER} (h : e ≠ .er7) (cl : Nibble) (t : List Byte) :
    decodeMovL 0x6D#8 e.code1 cl t = er0? cl fun r => .movLStoreDec r e := by
  cases e with
  | er7 => exact absurd rfl h
  | _ => rfl

/-- The instructions of one word, by the opcode map that holds them. -/
theorem headInstr_encode_word (i : Instr) (rest : List Byte) (wf : i.wf = true) (word : i.length = 2) :
    headInstr (encode i ++ rest) = some i := by
  cases i with
  | movBImm | movBLoadAbs8 | movBStoreAbs8 | addBImm | addxImm | subxImm | cmpBImm | andBImm | orBImm | xorBImm =>
    simp [encode, decodeCode]
  | movBReg | movWReg | addBReg | addWReg | adds1 | adds2 | adds4 | addxReg | incB | incW1 | incW2 | incL1 | incL2
  | daa | nop | ldcImm | ldcReg | stcReg | andc | orc | xorc =>
    simp [encode, decodeCode, decode0]
  | movLReg | addLReg => simp [encode, decodeCode, decode0, code1_ne_zero]
  | sleep => simp [encode, decodeCode, decode0, decode01]
  | subLReg | cmpLReg => simp [encode, decodeCode, decode1, code1_ne_zero]
  | subBReg | subWReg | subs1 | subs2 | subs4 | subxReg | decB | decW1 | decW2 | decL1 | decL2 | das | cmpBReg
  | cmpWReg | negB | negW | negL | extsW | extsL | extuW | extuL | andBReg | orBReg | xorBReg | notB | notW | notL =>
    simp [encode, decodeCode, decode1]
  | shalB | shalW | shalL | sharB | sharW | sharL | shllB | shllW | shllL | shlrB | shlrW | shlrL | rotlB | rotlW
  | rotlL | rotrB | rotrW | rotrL | rotxlB | rotxlW | rotxlL | rotxrB | rotxrW | rotxrL =>
    simp [encode, decodeCode, decode1, decodeShift]
  | braD8 | brnD8 | bhiD8 | blsD8 | bccD8 | bcsD8 | bneD8 | beqD8 | bvcD8 | bvsD8 | bplD8 | bmiD8 | bgeD8 | bltD8
  | bgtD8 | bleD8 =>
    simp [encode, decodeCode, decodeBccD8]
  | mulxuB | mulxuW | divxuB | divxuW | bsrD8 | jmpInd | jmpMem | jsrInd | jsrMem | rts | trapa | rte =>
    simp [encode, decodeCode, decode5]
  | movWLoadInc ers => simp [encode, decodeCode, decode6_postInc (of_decide_eq_true wf)]
  | movWStoreDec _ erd => simp [encode, decodeCode, decode6_preDec (of_decide_eq_true wf)]
  | movBLoadInd | movBLoadInc | movWLoadInd | movBStoreInd | movBStoreDec | movWStoreInd | popW | pushW | andWReg
  | orWReg | xorWReg | bsetRnReg | bclrRnReg | bnotRnReg | btstRnReg | bstReg | bistReg =>
    simp [encode, decodeCode, decode6]
  | bsetImmReg | bclrImmReg | bnotImmReg | btstImmReg | bandReg | biandReg | borReg | biorReg | bxorReg | bixorReg
  | bldReg | bildReg =>
    simp [encode, decodeCode, decode7]
  | _ => cases word

/-- The longer instructions, by the opcode map that holds them. -/
theorem headInstr_encode_words (i : Instr) (rest : List Byte) (wf : i.wf = true) (words : i.length ≠ 2) :
    headInstr (encode i ++ rest) = some i := by
  cases i with
  | movLLoadInc ers => simp [encode, decodeCode, decode0, decode01, decodeMovL_postInc (of_decide_eq_true wf)]
  | movLStoreDec _ erd => simp [encode, decodeCode, decode0, decode01, decodeMovL_preDec (of_decide_eq_true wf)]
  | movLLoadInd | movLLoadDisp16 | movLLoadDisp24 | movLLoadAbs16 | movLLoadAbs24 | movLStoreInd | movLStoreDisp16
  | movLStoreDisp24 | movLStoreAbs16 | movLStoreAbs24 | popL | pushL =>
    simp [encode, decodeCode, decode0, decode01, decodeMovL]
  | ldcLoadInd | ldcLoadDisp16 | ldcLoadDisp24 | ldcLoadInc | ldcLoadAbs16 | ldcLoadAbs24 | stcStoreInd
  | stcStoreDisp16 | stcStoreDisp24 | stcStoreDec | stcStoreAbs16 | stcStoreAbs24 =>
    simp [encode, decodeCode, decode0, decode01, decodeCcrMem]
  | mulxsB | mulxsW | divxsB | divxsW | andLReg | orLReg | xorLReg => simp [encode, decodeCode, decode0, decode01]
  | braD16 | brnD16 | bhiD16 | blsD16 | bccD16 | bcsD16 | bneD16 | beqD16 | bvcD16 | bvsD16 | bplD16 | bmiD16
  | bgeD16 | bltD16 | bgtD16 | bleD16 =>
    simp [encode, decodeCode, decode5, decodeBccD16]
  | bsrD16 | jmpAbs | jsrAbs => simp [encode, decodeCode, decode5]
  | movBLoadDisp16 | movBLoadAbs16 | movBLoadAbs24 | movWLoadDisp16 | movWLoadAbs16 | movWLoadAbs24
  | movBStoreDisp16 | movBStoreAbs16 | movBStoreAbs24 | movWStoreDisp16 | movWStoreAbs16 | movWStoreAbs24 | movfpe
  | movtpe =>
    simp [encode, decodeCode, decode6]
  | movBLoadDisp24 | movWLoadDisp24 | movBStoreDisp24 | movWStoreDisp24 =>
    simp [encode, decodeCode, decode7, decode78]
  | movWImm | addWImm | subWImm | cmpWImm | andWImm | orWImm | xorWImm =>
    simp [encode, decodeCode, decode7, decode79]
  | movLImm | addLImm | subLImm | cmpLImm | andLImm | orLImm | xorLImm =>
    simp [encode, decodeCode, decode7, decode7A]
  | btstImmInd | btstRnInd | bandInd | biandInd | borInd | biorInd | bxorInd | bixorInd | bldInd | bildInd =>
    simp [encode, decodeCode, decode7, decode7C]
  | bsetImmInd | bsetRnInd | bclrImmInd | bclrRnInd | bnotImmInd | bnotRnInd | bstInd | bistInd =>
    simp [encode, decodeCode, decode7, decode7D]
  | btstImmAbs | btstRnAbs | bandAbs | biandAbs | borAbs | biorAbs | bxorAbs | bixorAbs | bldAbs | bildAbs =>
    simp [encode, decodeCode, decode7, decode7E]
  | bsetImmAbs | bsetRnAbs | bclrImmAbs | bclrRnAbs | bnotImmAbs | bnotRnAbs | bstAbs | bistAbs =>
    simp [encode, decodeCode, decode7, decode7F]
  | eepmovB | eepmovW => simp [encode, decodeCode, decode7]
  | _ => exact absurd rfl words

theorem headInstr_encode (i : Instr) (rest : List Byte) (wf : i.wf = true) :
    headInstr (encode i ++ rest) = some i := by
  by_cases word : i.length = 2
  · exact headInstr_encode_word i rest wf word
  · exact headInstr_encode_words i rest wf word

/-- Settles O6: the head of the code is the instruction, and the code is as long as the instruction. -/
theorem roundTrip : Obligations.RoundTrip := by
  intro i rest wf
  refine decode_eq_ok_iff.mpr ⟨headInstr_encode i rest wf, ?_⟩
  rw [List.length_append, length_encode]
  exact Nat.le_add_right _ _

/-! ### What decodes begins with the code of its instruction -/

/-- The bytes from position `n` on, a missing byte read as zero, begin with the code. -/
def Reads (bytes : List Byte) : Nat → List Byte → Prop
  | _, [] => True
  | n, c :: code => c = codeByte bytes n ∧ Reads bytes (n + 1) code

/-- The bytes begin with the code of the instruction, which is well formed. -/
def BeginsWith (bytes : List Byte) (i : Instr) : Prop := i.wf = true ∧ Reads bytes 0 (encode i)

/-- The result of decoding the bytes is right: if it is an instruction, they begin with its code. -/
def Sound (bytes : List Byte) (r : Option Instr) : Prop := ∀ i, r = some i → BeginsWith bytes i

section

variable {bytes bytes' code t : List Byte} {i : Instr} {r : Option Instr} {n : Nat} {b0 b1 b2 : Byte}
variable {f al bh bl ch cl : Nibble}

@[simp] theorem reads_nil (bytes : List Byte) (n : Nat) : Reads bytes n [] := trivial

@[simp] theorem reads_cons (bytes code : List Byte) (n : Nat) (c : Byte) :
    Reads bytes n (c :: code) ↔ c = codeByte bytes n ∧ Reads bytes (n + 1) code := Iff.rfl

theorem Reads.congr (h : Reads bytes n code) (same : ∀ k, codeByte bytes k = codeByte bytes' k) :
    Reads bytes' n code := by
  induction code generalizing n with
  | nil => trivial
  | cons c code ih =>
    obtain ⟨first, rest⟩ := h
    exact ⟨first.trans (same n), ih rest⟩

/-- Where no byte is missing the code stands in the list. -/
theorem Reads.eq_take_drop (h : Reads bytes n code) (fits : n + code.length ≤ bytes.length) :
    code = (bytes.drop n).take code.length := by
  induction code generalizing n with
  | nil => rfl
  | cons c code ih =>
    obtain ⟨first, rest⟩ := h
    rw [List.length_cons] at fits
    have inside : n < bytes.length := by omega
    have here : c = bytes[n] := by simpa [codeByte, inside] using first
    rw [List.drop_eq_getElem_cons inside, List.length_cons, List.take_succ_cons, ← here,
      ← ih rest (by omega)]

/-- The bytes are, position by position, those of the code and of what follows it. -/
theorem Reads.codeByte_append (h : Reads bytes n code) (k : Nat) :
    codeByte (code ++ bytes.drop (n + code.length)) k = codeByte bytes (n + k) := by
  induction code generalizing n k with
  | nil => simp
  | cons c code ih =>
    obtain ⟨first, rest⟩ := h
    cases k with
    | zero => exact first
    | succ k =>
      rw [List.length_cons, List.cons_append, codeByte_cons_succ,
        show n + (code.length + 1) = n + 1 + code.length by omega, ih rest k,
        show n + (k + 1) = n + 1 + k by omega]

theorem Sound.congr (h : Sound bytes r) (same : ∀ k, codeByte bytes k = codeByte bytes' k) : Sound bytes' r := by
  intro i hi
  obtain ⟨wf, reads⟩ := h i hi
  exact ⟨wf, reads.congr same⟩

/-- The second word of a code, written out byte by byte. -/
theorem Sound.of_second_word
    (h : Sound (b0 :: b1 :: codeByte t 0 :: pack (hi (codeByte t 1)) (lo (codeByte t 1)) :: t.drop 2) r) :
    Sound (b0 :: b1 :: t) r := by
  refine h.congr fun k => ?_
  match k with
  | 0 | 1 | 2 => rfl
  | 3 => simp
  | k + 4 => simp [Nat.add_comm]

/-! One rule for each of the decoder's readers of a field. -/

theorem sound_none : Sound bytes none := fun _ h => nomatch h

theorem sound_some (wf : i.wf = true) (reads : Reads bytes 0 (encode i)) : Sound bytes (some i) := by
  rintro _ ⟨⟩
  exact ⟨wf, reads⟩

theorem sound_if {p : Prop} [Decidable p] (h : p → Sound bytes r) : Sound bytes (if p then r else none) := by
  split
  · exact h ‹_›
  · exact sound_none

theorem sound_zero? (h : f = 0#4 → Sound bytes r) : Sound bytes (zero? f r) := sound_if h

theorem sound_ext24? {k : BitVec 24 → Option Instr}
    (h : codeByte t n = 0#8 → Sound bytes (k (word24 t (n + 1)))) : Sound bytes (ext24? t n k) := sound_if h

/-- A nibble `0ern` that is read before the rest of the code. -/
theorem sound_register (h : ∀ e : ER, f = e.code → Sound bytes r) : Sound bytes (if top f then none else r) := by
  split
  · exact sound_none
  · exact h _ (code_erLow (Bool.eq_false_iff.mpr ‹_›)).symm

theorem sound_er0? {k : ER → Instr} (h : ∀ e : ER, f = e.code → BeginsWith bytes (k e)) :
    Sound bytes (er0? f k) := by
  unfold er0?
  split
  · exact sound_none
  · rintro _ ⟨⟩
    exact h _ (code_erLow (Bool.eq_false_iff.mpr ‹_›)).symm

theorem sound_loadOrStore {load store : ER → Instr} (hload : ∀ e : ER, f = e.code → BeginsWith bytes (load e))
    (hstore : ∀ e : ER, f = e.code1 → BeginsWith bytes (store e)) : Sound bytes (loadOrStore f load store) := by
  rintro _ ⟨⟩
  split
  · exact hstore _ (code1_erLow ‹_›).symm
  · exact hload _ (code_erLow (Bool.eq_false_iff.mpr ‹_›)).symm

theorem sound_imm3? {k : BitVec 3 → Instr} (h : ∀ n : BitVec 3, f = bit0 n → BeginsWith bytes (k n)) :
    Sound bytes (imm3? f k) := by
  unfold imm3?
  split
  · exact sound_none
  · rintro _ ⟨⟩
    exact h _ (bit0_imm3 (Bool.eq_false_iff.mpr ‹_›)).symm

theorem sound_imm3Either {plain inverting : BitVec 3 → Instr}
    (hplain : ∀ n : BitVec 3, f = bit0 n → BeginsWith bytes (plain n))
    (hinverting : ∀ n : BitVec 3, f = bit1 n → BeginsWith bytes (inverting n)) :
    Sound bytes (imm3Either f plain inverting) := by
  rintro _ ⟨⟩
  split
  · exact hinverting _ (bit1_imm3 ‹_›).symm
  · exact hplain _ (bit0_imm3 (Bool.eq_false_iff.mpr ‹_›)).symm

/-- A second byte `0 rd` of a byte operation or `1ers 0erd` of a longword operation. -/
theorem sound_byteOrLong {byte : R8 → Instr} {long : ER → ER → Instr}
    (hbyte : bh = 0#4 → BeginsWith bytes (byte (r8 bl)))
    (hlong : ∀ e d : ER, bh = e.code1 → bl = d.code → BeginsWith bytes (long e d)) :
    Sound bytes (if bh = 0 then some (byte (r8 bl)) else if top bh then er0? bl (long (erLow bh)) else none) := by
  split
  · rintro _ ⟨⟩
    exact hbyte ‹_›
  split
  · exact sound_er0? fun d hd => hlong _ d (code1_erLow ‹_›).symm hd
  · exact sound_none

/-! One rule for each opcode map. -/

theorem sound_decodeMovL : Sound (0x01#8 :: 0x00#8 :: b2 :: pack ch cl :: t) (decodeMovL b2 ch cl t) := by
  unfold decodeMovL
  split
  · refine sound_er0? fun e he => ?_
    obtain ⟨d, rfl⟩ | ⟨d, rfl⟩ := code_or_code1 ch <;> simp [BeginsWith, Instr.wf, encode, he]
  · cases ch using Nibble.cases with
    | zero | eight => exact sound_er0? fun e he => ⟨rfl, by simp [encode, he]⟩
    | two | ten => exact sound_ext24? fun zero => sound_er0? fun e he => ⟨rfl, by simp [encode, zero, he]⟩
    | _ => exact sound_none
  · cases ch using Nibble.cases with
    | _ => exact sound_er0? fun e he => ⟨rfl, by simp [encode, top, erLow, ER.code, ER.code1, he]⟩
  · refine sound_er0? fun e he => ?_
    obtain ⟨d, rfl⟩ | ⟨d, rfl⟩ := code_or_code1 ch <;> simp [BeginsWith, Instr.wf, encode, he]
  · refine sound_zero? fun hz => ?_
    split
    case h_3 => exact sound_none
    all_goals
      exact sound_ext24? fun zero => sound_register fun d hd => sound_er0? fun e he =>
        ⟨rfl, by simp [encode, pack_eq_iff, *]⟩
  · exact sound_none

theorem sound_decodeCcrMem : Sound (0x01#8 :: 0x40#8 :: b2 :: pack ch cl :: t) (decodeCcrMem b2 ch cl t) := by
  unfold decodeCcrMem
  refine sound_zero? fun hz => ?_
  split
  case h_1 | h_3 | h_4 =>
    exact sound_loadOrStore (fun e he => ⟨rfl, by simp [encode, hz, he]⟩)
      fun e he => ⟨rfl, by simp [encode, hz, he]⟩
  case h_2 =>
    cases ch using Nibble.cases with
    | zero | eight => exact sound_some rfl (by simp [encode, hz])
    | two | ten => exact sound_ext24? fun zero => sound_some rfl (by simp [encode, hz, zero])
    | _ => exact sound_none
  case h_5 =>
    split
    case h_3 => exact sound_none
    all_goals exact sound_ext24? fun zero => sound_er0? fun e he => ⟨rfl, by simp [encode, *]⟩
  case h_6 => exact sound_none

theorem sound_decode01 : Sound (0x01#8 :: b1 :: t) (decode01 b1 t) := by
  refine .of_second_word ?_
  unfold decode01
  generalize codeByte t 0 = b2, hi (codeByte t 1) = ch, lo (codeByte t 1) = cl, t.drop 2 = u
  dsimp only
  split
  · exact sound_decodeMovL
  · exact sound_decodeCcrMem
  · exact sound_some rfl (by simp [encode])
  · split
    · exact sound_some rfl (by simp [encode])
    · exact sound_er0? fun e he => ⟨rfl, by simp [encode, he]⟩
    · exact sound_none
  · split
    · exact sound_some rfl (by simp [encode])
    · exact sound_er0? fun e he => ⟨rfl, by simp [encode, he]⟩
    · exact sound_none
  · split
    case h_4 => exact sound_none
    all_goals exact sound_register fun d hd => sound_er0? fun e he => ⟨rfl, by simp [encode, hd, he]⟩
  · exact sound_none

theorem sound_decode0 : Sound (pack 0#4 al :: pack bh bl :: t) (decode0 al bh bl (pack bh bl) t) := by
  unfold decode0
  cases al using Nibble.cases with
  | zero => exact sound_zero? fun hh => sound_zero? fun hl => sound_some rfl (by simp [encode, hh, hl])
  | one => exact sound_decode01
  | two | three => exact sound_zero? fun hh => sound_some rfl (by simp [encode, hh])
  | ten | fifteen =>
    exact sound_byteOrLong (fun hb => ⟨rfl, by simp [encode, hb]⟩) fun e d he hd => ⟨rfl, by simp [encode, he, hd]⟩
  | eleven =>
    cases bh using Nibble.cases with
    | five | thirteen => exact sound_some rfl (by simp [encode])
    | zero | seven | eight | nine | fifteen => exact sound_er0? fun e he => ⟨rfl, by simp [encode, he]⟩
    | _ => exact sound_none
  | _ => exact sound_some rfl (by simp [encode])

theorem sound_decode1 : Sound (pack 1#4 al :: pack bh bl :: t) (decode1 al bh bl) := by
  unfold decode1
  cases al using Nibble.cases with
  | zero | one | two | three =>
    cases bh using Nibble.cases with
    | zero | one | eight | nine => exact sound_some rfl (by simp [encode])
    | three | eleven => exact sound_er0? fun e he => ⟨rfl, by simp [encode, he]⟩
    | _ => exact sound_none
  | seven =>
    cases bh using Nibble.cases with
    | zero | one | five | eight | nine | thirteen => exact sound_some rfl (by simp [encode])
    | three | seven | eleven | fifteen => exact sound_er0? fun e he => ⟨rfl, by simp [encode, he]⟩
    | _ => exact sound_none
  | ten | fifteen =>
    exact sound_byteOrLong (fun hb => ⟨rfl, by simp [encode, hb]⟩) fun e d he hd => ⟨rfl, by simp [encode, he, hd]⟩
  | eleven =>
    cases bh using Nibble.cases with
    | five | thirteen => exact sound_some rfl (by simp [encode])
    | zero | seven | eight | nine | fifteen => exact sound_er0? fun e he => ⟨rfl, by simp [encode, he]⟩
    | _ => exact sound_none
  | _ => exact sound_some rfl (by simp [encode])

theorem sound_decodeBccD8 (d : Byte) : Sound (pack 4#4 al :: d :: t) (some (decodeBccD8 al d)) := by
  cases al using Nibble.cases with
  | _ => exact sound_some rfl (by simp [decodeBccD8, encode])

theorem sound_decodeBccD16 : Sound (0x58#8 :: pack bh 0#4 :: t) (some (decodeBccD16 bh (word16 t 0))) := by
  cases bh using Nibble.cases with
  | _ => exact sound_some rfl (by simp [decodeBccD16, encode])

theorem sound_decode5 : Sound (pack 5#4 al :: pack bh bl :: t) (decode5 al bh bl (pack bh bl) t) := by
  unfold decode5
  cases al using Nibble.cases with
  | two | three => exact sound_er0? fun e he => ⟨rfl, by simp [encode, he]⟩
  | four | six => exact sound_if fun hb => sound_some rfl (by simp [encode, hb])
  | seven =>
    exact sound_zero? fun hz => sound_if fun hu => sound_some rfl (by simp [encode, trapNibble_extract hu, hz])
  | eight =>
    refine sound_zero? fun hz => ?_
    rw [hz]
    exact sound_decodeBccD16
  | nine | thirteen => exact sound_zero? fun hz => sound_er0? fun e he => ⟨rfl, by simp [encode, hz, he]⟩
  | twelve => exact sound_zero? fun hh => sound_zero? fun hl => sound_some rfl (by simp [encode, hh, hl])
  | ten =>
    change Sound _ (some (.jmpAbs (word24 (pack bh bl :: t) 0)))
    exact sound_some rfl (by simp [encode])
  | fourteen =>
    change Sound _ (some (.jsrAbs (word24 (pack bh bl :: t) 0)))
    exact sound_some rfl (by simp [encode])
  | _ => exact sound_some rfl (by simp [encode])

theorem sound_decode6 : Sound (pack 6#4 al :: pack bh bl :: t) (decode6 al bh bl t) := by
  unfold decode6
  cases al using Nibble.cases with
  | seven =>
    exact sound_imm3Either (fun n hn => ⟨rfl, by simp [encode, hn]⟩) fun n hn => ⟨rfl, by simp [encode, hn]⟩
  | eight | nine | twelve | fourteen | fifteen =>
    exact sound_loadOrStore (fun e he => ⟨rfl, by simp [encode, he]⟩) fun e he => ⟨rfl, by simp [encode, he]⟩
  | ten =>
    cases bh using Nibble.cases with
    | two | ten => exact sound_ext24? fun zero => sound_some rfl (by simp [encode, zero])
    | zero | four | eight | twelve => exact sound_some rfl (by simp [encode])
    | _ => exact sound_none
  | eleven =>
    cases bh using Nibble.cases with
    | two | ten => exact sound_ext24? fun zero => sound_some rfl (by simp [encode, zero])
    | zero | eight => exact sound_some rfl (by simp [encode])
    | _ => exact sound_none
  | thirteen =>
    cases bh using Nibble.cases with
    | _ => exact sound_some rfl (by simp [encode, top, erLow, ER.code, ER.code1])
  | _ => exact sound_some rfl (by simp [encode])

theorem sound_decode78 : Sound (0x78#8 :: pack bh bl :: t) (decode78 bh bl t) := by
  unfold decode78
  refine sound_zero? fun hz => sound_register fun e he => ?_
  dsimp only
  split
  case h_5 => exact sound_none
  all_goals exact sound_ext24? fun zero => sound_some rfl (by simp [encode, pack_eq_iff, *])

theorem sound_decode79 : Sound (0x79#8 :: pack bh bl :: t) (decode79 bh bl (word16 t 0)) := by
  unfold decode79
  cases bh using Nibble.cases with
  | zero | one | two | three | four | five | six => exact sound_some rfl (by simp [encode])
  | _ => exact sound_none

theorem sound_decode7A : Sound (0x7A#8 :: pack bh bl :: t) (decode7A bh bl (word32 t 0)) := by
  unfold decode7A
  cases bh using Nibble.cases with
  | zero | one | two | three | four | five | six => exact sound_er0? fun e he => ⟨rfl, by simp [encode, he]⟩
  | _ => exact sound_none

theorem sound_decode7C (e : ER) : Sound (0x7C#8 :: pack e.code 0#4 :: b2 :: pack ch cl :: t) (decode7C e b2 ch cl) := by
  unfold decode7C
  refine sound_zero? fun hz => ?_
  split
  case h_1 => exact sound_some rfl (by simp [encode, hz])
  case h_2 => exact sound_imm3? fun n hn => ⟨rfl, by simp [encode, hz, hn]⟩
  case h_7 => exact sound_none
  all_goals
    exact sound_imm3Either (fun n hn => ⟨rfl, by simp [encode, hz, hn]⟩) fun n hn => ⟨rfl, by simp [encode, hz, hn]⟩

theorem sound_decode7D (e : ER) : Sound (0x7D#8 :: pack e.code 0#4 :: b2 :: pack ch cl :: t) (decode7D e b2 ch cl) := by
  unfold decode7D
  refine sound_zero? fun hz => ?_
  split
  case h_4 =>
    exact sound_imm3Either (fun n hn => ⟨rfl, by simp [encode, hz, hn]⟩) fun n hn => ⟨rfl, by simp [encode, hz, hn]⟩
  case h_5 | h_6 | h_7 => exact sound_imm3? fun n hn => ⟨rfl, by simp [encode, hz, hn]⟩
  case h_8 => exact sound_none
  all_goals exact sound_some rfl (by simp [encode, hz])

theorem sound_decode7E (aa : Byte) : Sound (0x7E#8 :: aa :: b2 :: pack ch cl :: t) (decode7E aa b2 ch cl) := by
  unfold decode7E
  refine sound_zero? fun hz => ?_
  split
  case h_1 => exact sound_some rfl (by simp [encode, hz])
  case h_2 => exact sound_imm3? fun n hn => ⟨rfl, by simp [encode, hz, hn]⟩
  case h_7 => exact sound_none
  all_goals
    exact sound_imm3Either (fun n hn => ⟨rfl, by simp [encode, hz, hn]⟩) fun n hn => ⟨rfl, by simp [encode, hz, hn]⟩

theorem sound_decode7F (aa : Byte) : Sound (0x7F#8 :: aa :: b2 :: pack ch cl :: t) (decode7F aa b2 ch cl) := by
  unfold decode7F
  refine sound_zero? fun hz => ?_
  split
  case h_4 =>
    exact sound_imm3Either (fun n hn => ⟨rfl, by simp [encode, hz, hn]⟩) fun n hn => ⟨rfl, by simp [encode, hz, hn]⟩
  case h_5 | h_6 | h_7 => exact sound_imm3? fun n hn => ⟨rfl, by simp [encode, hz, hn]⟩
  case h_8 => exact sound_none
  all_goals exact sound_some rfl (by simp [encode, hz])

theorem sound_decode7 : Sound (pack 7#4 al :: pack bh bl :: t) (decode7 al bh bl (pack bh bl) t) := by
  unfold decode7
  dsimp only
  cases al using Nibble.cases with
  | zero | one | two | three => exact sound_imm3? fun n hn => ⟨rfl, by simp [encode, hn]⟩
  | four | five | six | seven =>
    exact sound_imm3Either (fun n hn => ⟨rfl, by simp [encode, hn]⟩) fun n hn => ⟨rfl, by simp [encode, hn]⟩
  | eight => exact sound_decode78
  | nine => exact sound_decode79
  | ten => exact sound_decode7A
  | eleven =>
    refine sound_if fun ⟨third, fourth⟩ => ?_
    split
    · exact sound_some rfl (by simp [encode, *])
    · exact sound_if fun second => sound_some rfl (by simp [encode, second, third, fourth])
  | twelve =>
    refine sound_zero? fun hz => sound_register fun e he => ?_
    rw [hz, he, erLow_code]
    exact .of_second_word (sound_decode7C e)
  | thirteen =>
    refine sound_zero? fun hz => sound_register fun e he => ?_
    rw [hz, he, erLow_code]
    exact .of_second_word (sound_decode7D e)
  | fourteen => exact .of_second_word (sound_decode7E _)
  | fifteen => exact .of_second_word (sound_decode7F _)

theorem sound_decodeCode_pack {ah : Nibble} :
    Sound (pack ah al :: pack bh bl :: t) (decodeCode (pack ah al) (pack bh bl) t) := by
  rw [decodeCode, hi_pack, lo_pack, hi_pack, lo_pack]
  cases ah using Nibble.cases with
  | zero => exact sound_decode0
  | one => exact sound_decode1
  | four => exact sound_decodeBccD8 _
  | five => exact sound_decode5
  | six => exact sound_decode6
  | seven => exact sound_decode7
  | _ => exact sound_some rfl (by simp [encode])

theorem sound_decodeCode (b0 b1 : Byte) (t : List Byte) : Sound (b0 :: b1 :: t) (decodeCode b0 b1 t) := by
  have h := sound_decodeCode_pack (ah := hi b0) (al := lo b0) (bh := hi b1) (bl := lo b1) (t := t)
  rwa [pack_hi_lo, pack_hi_lo] at h

theorem sound_headInstr (bytes : List Byte) : Sound bytes (headInstr bytes) := by
  match bytes with
  | [] | [_] => exact sound_none
  | b0 :: b1 :: t => exact sound_decodeCode b0 b1 t

/-! ### The length -/

theorem lengthOfCode_of_hi_ne_zero (h : hi b0 ≠ 0#4) (b1 b2 b3 : Byte) :
    lengthOfCode b0 b1 b2 b3 = lengthOfWord b0 b1 := by
  refine if_neg ?_
  rintro rfl
  exact h rfl

/-- The length is read from the leading bytes of a code, whatever bytes follow it (R145). -/
theorem lengthOfCode_encode (i : Instr) (rest : List Byte) : ∃ (b0 b1 : Byte) (t : List Byte),
    encode i ++ rest = b0 :: b1 :: t ∧
      lengthOfCode b0 b1 (codeByte t 0) (codeByte t 1) = (encode i).length := by
  cases i with
  -- A register stands in the first byte.
  | movBImm | movBLoadAbs8 | movBStoreAbs8 | addBImm | addxImm | subxImm | cmpBImm | andBImm | orBImm | xorBImm =>
    exact ⟨_, _, _, rfl, (lengthOfCode_of_hi_ne_zero (by simp) _ _ _).trans (by simp [encode, lengthOfWord])⟩
  -- The upper nibble of the byte after 6A or 6B tells a 16-bit address from a 24-bit one.
  | movBLoadAbs16 | movBLoadAbs24 | movBStoreAbs16 | movBStoreAbs24 | movWLoadAbs16 | movWLoadAbs24 | movWStoreAbs16
  | movWStoreAbs24 | movfpe | movtpe =>
    exact ⟨_, _, _, rfl, by simp [encode, lengthOfCode, lengthOfWord]⟩
  -- After 01 00 and 01 40 the second word is read.
  | movLLoadInd | movLLoadDisp16 | movLLoadDisp24 | movLLoadInc | movLLoadAbs16 | movLLoadAbs24 | movLStoreInd
  | movLStoreDisp16 | movLStoreDisp24 | movLStoreDec | movLStoreAbs16 | movLStoreAbs24 | popL | pushL | ldcLoadInd
  | ldcLoadDisp16 | ldcLoadDisp24 | ldcLoadInc | ldcLoadAbs16 | ldcLoadAbs24 | stcStoreInd | stcStoreDisp16
  | stcStoreDisp24 | stcStoreDec | stcStoreAbs16 | stcStoreAbs24 =>
    exact ⟨_, _, _, rfl, by simp [encode, lengthOfCode, lengthOfWord]⟩
  | _ => exact ⟨_, _, _, rfl, rfl⟩

end

/-- Settles O7: the decoder's result is right on every list of bytes. -/
theorem decodeEncode : Obligations.DecodeEncode := by
  intro bytes i h
  obtain ⟨head, fits⟩ := decode_eq_ok_iff.mp h
  obtain ⟨wf, reads⟩ := sound_headInstr bytes i head
  have stands := reads.eq_take_drop (by rwa [Nat.zero_add, length_encode])
  rw [List.drop_zero, length_encode] at stands
  exact ⟨wf, stands⟩

/-- Settles O8: the leading bytes are those of the instruction's code. -/
theorem lengthFromLeadingBytes : Obligations.LengthFromLeadingBytes := by
  intro b0 b1 b2 b3 rest i h
  obtain ⟨-, reads⟩ := sound_decodeCode b0 b1 (b2 :: b3 :: rest) i h
  obtain ⟨c0, c1, t, code, length⟩ :=
    lengthOfCode_encode i ((b0 :: b1 :: b2 :: b3 :: rest).drop (0 + (encode i).length))
  have same := reads.codeByte_append
  rw [code] at same
  obtain rfl : c0 = b0 := same 0
  obtain rfl : c1 = b1 := same 1
  have third : codeByte t 0 = b2 := same 2
  have fourth : codeByte t 1 = b3 := same 3
  rw [third, fourth, length_encode] at length
  exact ⟨length.symm, length_mem i⟩

/-! ### Codes that are not assigned -/

theorem eq_zero_of_nibbles {b : Byte} (h : hi b = 0#4) (l : lo b = 0#4) : b = 0 := by
  rw [← pack_hi_lo b, h, l]
  rfl

/-- A second byte of `10` to `13` outside the table (R391). -/
theorem decodeShift_eq_none {bh bl : Nibble} {byte0 byte1 : R8 → Instr} {word0 word1 : R16 → Instr}
    {long0 long1 : ER → Instr}
    (h : bh ∈ [2#4, 4#4, 5#4, 6#4, 7#4, 10#4, 12#4, 13#4, 14#4, 15#4] ∨ bh ∈ [3#4, 11#4] ∧ top bl = true) :
    decodeShift bh bl byte0 word0 long0 byte1 word1 long1 = none := by
  cases bh using Nibble.cases with
  | three | eleven => simp_all [decodeShift, er0?]
  | zero | one | eight | nine => simp at h
  | _ => rfl

/-- Two nibbles `0ern`, one of which has bit 3 set. -/
theorem if_top_er0?_eq_none {f g : Nibble} (h : top f = true ∨ top g = true) (k : ER → Instr) :
    (if top f then none else er0? g k) = none := by
  obtain h | h := h <;> simp [er0?, h]

/-- A third byte or a register byte of `01 F0` outside the table (R380). -/
theorem decode01_F0_eq_none {t : List Byte} (h : codeByte t 0 ∉ [0x64#8, 0x65#8, 0x66#8] ∨
    top (hi (codeByte t 1)) = true ∨ top (lo (codeByte t 1)) = true) : decode01 0xF0#8 t = none := by
  simp only [decode01]
  obtain third | register := h
  · split <;> simp_all
  · split
    case h_4 => rfl
    all_goals exact if_top_er0?_eq_none register _

theorem decode7B_eq_none {b1 b2 b3 : Byte} (t : List Byte) (byte : [b1, b2, b3] ≠ [0x5C#8, 0x59#8, 0x8F#8])
    (word : [b1, b2, b3] ≠ [0xD4#8, 0x59#8, 0x8F#8]) : decodeCode 0x7B b1 (b2 :: b3 :: t) = none := by
  change (if b2 = 0x59#8 ∧ b3 = 0x8F#8 then
    if b1 = 0x5C#8 then some Instr.eepmovB else if b1 = 0xD4#8 then some Instr.eepmovW else none else none) = none
  split
  · obtain ⟨rfl, rfl⟩ := ‹_ ∧ _›
    simp_all
  · rfl

theorem top_hi (b : Byte) : top (hi b) = b.getLsbD 7 := by simp [top, hi]

theorem top_lo (b : Byte) : top (lo b) = b.getLsbD 3 := by simp [top, lo]

theorem runInstruction_of_error {s : Machine.State} {e : DecodeError} (h : decode s.fetchBytes = .error e) :
    s.runInstruction = .refused (.unassignedCode s.fetchBytes) := by
  rw [Machine.State.runInstruction, h]

/-- Settles O9, clause by clause from the map that holds the first byte. -/
theorem unassignedCodes : Obligations.UnassignedCodes := by
  refine ⟨fun b1 t h => ?_, fun b1 t h => ⟨zero?_of_ne h _, zero?_of_ne h _⟩, fun b0 b1 t h0 h1 => ?_,
    fun b1 t h => zero?_of_ne h _, fun b1 b2 b3 t => decode7B_eq_none t, fun b2 b3 t h => ?_,
    fun s e running idle error => ?_⟩
  · change zero? (hi b1) (zero? (lo b1) (some .nop)) = none
    by_cases upper : hi b1 = 0
    · rw [zero?_of_ne (fun lower => h (eq_zero_of_nibbles upper lower))]
      exact ite_self _
    · exact zero?_of_ne upper _
  · simp only [List.mem_cons, List.not_mem_nil, or_false] at h0
    obtain rfl | rfl | rfl | rfl := h0 <;> exact decodeShift_eq_none h1
  · refine decode01_F0_eq_none ?_
    rwa [codeByte_cons_zero, codeByte_cons_succ, codeByte_cons_zero, top_hi, top_lo]
  · rw [Machine.step_eq_runInstruction running idle, runInstruction_of_error error]

end Sys2Proof

/-! O16 to O22 and O5: the data transfers. Each instruction is one of the shared moves, loads and stores on its
operand and its length, and the law of that operation (Sys2Proof/Laws/) says what it does. -/

namespace Sys2Proof.Machine

variable {s : State}

/-! ### From the law of a shared operation to the instructions -/

/-- An instruction whose meaning is a shared operation that ends at the next instruction does what the law of
the operation says. -/
theorem runs_of_effect {i : Instr} {e : Effect} {operation : Nat → State → Result}
    (law : ∀ k s, ∃ t, operation k s = .next t ∧ e s (s.next k) t) (meaning : exec i s = operation i.length s) :
    Runs i s e := by
  rw [Runs, meaning]
  exact law i.length s

/-- With an E clock MOVFPE is the load of MOV.B @aa:16 (R230, D13). -/
theorem exec_movfpe (clock : s.par.hasEclock = true) (aa : BitVec 16) (rd : R8) :
    exec (.movfpe aa rd) s = loadMovB (.abs16 aa) rd 4 s := if_pos clock

/-- With an E clock MOVTPE is the store of MOV.B @aa:16 (R231, D13). -/
theorem exec_movtpe (clock : s.par.hasEclock = true) (rs : R8) (aa : BitVec 16) :
    exec (.movtpe rs aa) s = storeMovB (.abs16 aa) rs 4 s := if_pos clock

/-! ### Registers and immediates -/

/-- Settles O16: the value moved is that of the register before the instruction, or the immediate. -/
theorem movRegisterImmediate : Obligations.MovRegisterImmediate := by
  intro s
  exact ⟨fun rs rd => runs_of_effect (moveB_effect rd (s.reg8 rs)) rfl,
    fun rs rd => runs_of_effect (moveW_effect rd (s.reg16 rs)) rfl,
    fun ers erd => runs_of_effect (moveL_effect erd (s.reg32 ers)) rfl,
    fun imm rd => runs_of_effect (moveB_effect rd imm) rfl,
    fun imm rd => runs_of_effect (moveW_effect rd imm) rfl,
    fun imm erd => runs_of_effect (moveL_effect erd imm) rfl⟩

/-! ### Loads -/

/-- Settles O17: MOV.B from memory in its seven forms, then MOVFPE. -/
theorem loadByte : Obligations.LoadByte := by
  intro s
  exact ⟨fun ers rd => runs_of_effect (loadMovB_effect (.ind ers) rd) rfl,
    fun d ers rd => runs_of_effect (loadMovB_effect (.disp16 d ers) rd) rfl,
    fun d ers rd => runs_of_effect (loadMovB_effect (.disp24 d ers) rd) rfl,
    fun ers rd => runs_of_effect (loadMovB_effect (.inc ers) rd) rfl,
    fun aa rd => runs_of_effect (loadMovB_effect (.abs8 aa) rd) rfl,
    fun aa rd => runs_of_effect (loadMovB_effect (.abs16 aa) rd) rfl,
    fun aa rd => runs_of_effect (loadMovB_effect (.abs24 aa) rd) rfl,
    fun aa rd clock => runs_of_effect (loadMovB_effect (.abs16 aa) rd) (exec_movfpe clock aa rd)⟩

/-- Settles O18: MOV.W from memory in its six forms, then POP.W. -/
theorem loadWord : Obligations.LoadWord := by
  intro s
  exact ⟨fun ers rd => runs_of_effect (loadMovW_effect (.ind ers) rd) rfl,
    fun d ers rd => runs_of_effect (loadMovW_effect (.disp16 d ers) rd) rfl,
    fun d ers rd => runs_of_effect (loadMovW_effect (.disp24 d ers) rd) rfl,
    fun ers rd => runs_of_effect (loadMovW_effect (.inc ers) rd) rfl,
    fun aa rd => runs_of_effect (loadMovW_effect (.abs16 aa) rd) rfl,
    fun aa rd => runs_of_effect (loadMovW_effect (.abs24 aa) rd) rfl,
    fun rn => runs_of_effect (loadMovW_effect (.inc .er7) rn) rfl⟩

/-- Settles O19: MOV.L from memory in its six forms, then POP.L. -/
theorem loadLong : Obligations.LoadLong := by
  intro s
  exact ⟨fun ers erd => runs_of_effect (loadMovL_effect (.ind ers) erd) rfl,
    fun d ers erd => runs_of_effect (loadMovL_effect (.disp16 d ers) erd) rfl,
    fun d ers erd => runs_of_effect (loadMovL_effect (.disp24 d ers) erd) rfl,
    fun ers erd => runs_of_effect (loadMovL_effect (.inc ers) erd) rfl,
    fun aa erd => runs_of_effect (loadMovL_effect (.abs16 aa) erd) rfl,
    fun aa erd => runs_of_effect (loadMovL_effect (.abs24 aa) erd) rfl,
    fun ern => runs_of_effect (loadMovL_effect (.inc .er7) ern) rfl⟩

/-! ### Stores -/

/-- Settles O20: MOV.B to memory in its seven forms, then MOVTPE. -/
theorem storeByte : Obligations.StoreByte := by
  intro s
  exact ⟨fun rs erd => runs_of_effect (storeMovB_effect (.ind erd) rs) rfl,
    fun rs d erd => runs_of_effect (storeMovB_effect (.disp16 d erd) rs) rfl,
    fun rs d erd => runs_of_effect (storeMovB_effect (.disp24 d erd) rs) rfl,
    fun rs erd => runs_of_effect (storeMovB_effect (.dec erd) rs) rfl,
    fun rs aa => runs_of_effect (storeMovB_effect (.abs8 aa) rs) rfl,
    fun rs aa => runs_of_effect (storeMovB_effect (.abs16 aa) rs) rfl,
    fun rs aa => runs_of_effect (storeMovB_effect (.abs24 aa) rs) rfl,
    fun rs aa clock => runs_of_effect (storeMovB_effect (.abs16 aa) rs) (exec_movtpe clock rs aa)⟩

/-- Settles O21: MOV.W to memory in its six forms, then PUSH.W. -/
theorem storeWord : Obligations.StoreWord := by
  intro s
  exact ⟨fun rs erd => runs_of_effect (storeMovW_effect (.ind erd) rs) rfl,
    fun rs d erd => runs_of_effect (storeMovW_effect (.disp16 d erd) rs) rfl,
    fun rs d erd => runs_of_effect (storeMovW_effect (.disp24 d erd) rs) rfl,
    fun rs erd => runs_of_effect (storeMovW_effect (.dec erd) rs) rfl,
    fun rs aa => runs_of_effect (storeMovW_effect (.abs16 aa) rs) rfl,
    fun rs aa => runs_of_effect (storeMovW_effect (.abs24 aa) rs) rfl,
    fun rn => runs_of_effect (storeMovW_effect (.dec .er7) rn) rfl⟩

/-- Settles O22: MOV.L to memory in its six forms, then PUSH.L. -/
theorem storeLong : Obligations.StoreLong := by
  intro s
  exact ⟨fun ers erd => runs_of_effect (storeMovL_effect (.ind erd) ers) rfl,
    fun ers d erd => runs_of_effect (storeMovL_effect (.disp16 d erd) ers) rfl,
    fun ers d erd => runs_of_effect (storeMovL_effect (.disp24 d erd) ers) rfl,
    fun ers erd => runs_of_effect (storeMovL_effect (.dec erd) ers) rfl,
    fun ers aa => runs_of_effect (storeMovL_effect (.abs16 aa) ers) rfl,
    fun ers aa => runs_of_effect (storeMovL_effect (.abs24 aa) ers) rfl,
    fun ern => runs_of_effect (storeMovL_effect (.dec .er7) ern) rfl⟩

end Sys2Proof.Machine

namespace Sys2Proof

/-! ### Words of the encoding tables -/

/-- A list of bytes that is the code of a well-formed instruction decodes to it. -/
theorem decode_of_encode {bytes : List Byte} {i : Instr} (wf : i.wf = true) (code : encode i = bytes) :
    decode bytes = .ok i := by
  have decoded := roundTrip i [] wf
  rwa [List.append_nil, code] at decoded

/-- Settles O5: each list of bytes is the code of its instruction. -/
theorem decodeWords : Obligations.DecodeWords :=
  ⟨decode_of_encode rfl rfl, decode_of_encode rfl rfl, decode_of_encode rfl rfl, decode_of_encode rfl rfl,
    decode_of_encode rfl rfl, decode_of_encode rfl rfl, decode_of_encode rfl rfl, decode_of_encode rfl rfl,
    decode_of_encode rfl rfl, decode_of_encode rfl rfl, decode_of_encode rfl rfl, decode_of_encode rfl rfl,
    decode_of_encode rfl rfl, decode_of_encode rfl rfl, decode_of_encode rfl rfl, decode_of_encode rfl rfl⟩

end Sys2Proof

/-! O23 to O30: addition, subtraction, counting and decimal adjustment. First the laws of the shared operations
that Sys2Proof/Laws/ does not have, in the words of Safety; an instruction is its shared operation on its operand,
so its statement is the law of that operation. -/

namespace Sys2Proof.Machine

variable {s t u : State} {w : Nat}

/-! ### Addition with carry and subtraction with borrow -/

/-- The flags of an addition other than Z are decided by the flags other than Z after it. -/
theorem AddFlags.of_flags_but_z {a b : BitVec w} {c : Bool} (h : AddFlags a b c s u)
    (same : ∀ f : Flag, f ≠ .z → t.flag f = u.flag f) : AddFlags a b c s t := by
  obtain ⟨hh, hn, hv, hc, others⟩ := h
  exact ⟨(same .h (by decide)).trans hh, (same .n (by decide)).trans hn, (same .v (by decide)).trans hv,
    (same .c (by decide)).trans hc, fun f hf => (same f (by rintro rfl; simp at hf)).trans (others f hf)⟩

/-- The flags of a subtraction other than Z are decided by the flags other than Z after it. -/
theorem SubFlags.of_flags_but_z {a b : BitVec w} {c : Bool} (h : SubFlags a b c s u)
    (same : ∀ f : Flag, f ≠ .z → t.flag f = u.flag f) : SubFlags a b c s t := by
  obtain ⟨hh, hn, hv, hc, others⟩ := h
  exact ⟨(same .h (by decide)).trans hh, (same .n (by decide)).trans hn, (same .v (by decide)).trans hv,
    (same .c (by decide)).trans hc, fun f hf => (same f (by rintro rfl; simp at hf)).trans (others f hf)⟩

/-- After `stickyZ` Z is kept or cleared, and the other flags are as before. -/
theorem stickyZ_flags_of {z : Bool} {r : BitVec w} (h : t.ccr = (u.stickyZ z r).ccr) :
    t.flag .z = keepsZero z r ∧ ∀ f : Flag, f ≠ .z → t.flag f = u.flag f := by
  refine ⟨?_, fun f hf => ?_⟩ <;> rw [State.flag_congr h, State.flag_stickyZ]
  · by_cases hr : r = 0 <;> simp_all [keepsZero]
  · exact if_neg hf

theorem addxFlags_of (hw : 5 ≤ w) {a b : BitVec w} {c z : Bool}
    (h : t.ccr = ((s.setAddFlags a b c).stickyZ z (sum a b c)).ccr) :
    AddFlags a b c s t ∧ t.flag .z = keepsZero z (sum a b c) := by
  obtain ⟨zero, same⟩ := stickyZ_flags_of h
  obtain ⟨flags, -⟩ := addFlags_of hw (t := s.setAddFlags a b c) rfl
  exact ⟨flags.of_flags_but_z same, zero⟩

theorem subxFlags_of (hw : 5 ≤ w) {a b : BitVec w} {c z : Bool}
    (h : t.ccr = ((s.setSubFlags a b c).stickyZ z (difference a b c)).ccr) :
    SubFlags a b c s t ∧ t.flag .z = keepsZero z (difference a b c) := by
  obtain ⟨zero, same⟩ := stickyZ_flags_of h
  obtain ⟨flags, -⟩ := subFlags_of hw (t := s.setSubFlags a b c) rfl
  exact ⟨flags.of_flags_but_z same, zero⟩

theorem addxB_effect (rd : R8) (b : Byte) (s : State) :
    ∃ t, addxB rd b s = .next t ∧
      Adds Wrote8 rd (s.reg8 rd) b (s.flag .c) (keepsZero (s.flag .z)) s (s.next 2) t :=
  ⟨_, by cases rd <;> rfl, gives8 s rd _ ((s.setAddFlags (s.reg8 rd) b (s.flag .c)).stickyZ (s.flag .z) _).ccr _ _
    fun _ h => addxFlags_of (by decide) h⟩

theorem subxB_effect (rd : R8) (b : Byte) (s : State) :
    ∃ t, subxB rd b s = .next t ∧
      Subtracts Wrote8 rd (s.reg8 rd) b (s.flag .c) (keepsZero (s.flag .z)) s (s.next 2) t :=
  ⟨_, by cases rd <;> rfl, gives8 s rd _ ((s.setSubFlags (s.reg8 rd) b (s.flag .c)).stickyZ (s.flag .z) _).ccr _ _
    fun _ h => subxFlags_of (by decide) h⟩

/-! ### Addition and subtraction that keep CCR -/

theorem addsL_effect (erd : ER) (k : Long) (s : State) :
    ∃ t, addsL erd k s = .next t ∧ Gives Wrote32 erd (s.reg32 erd + k) SameCcr s (s.next 2) t :=
  ⟨_, rfl, gives32 s erd _ s.ccr _ _ fun _ h => h⟩

theorem subsL_effect (erd : ER) (k : Long) (s : State) :
    ∃ t, subsL erd k s = .next t ∧ Gives Wrote32 erd (s.reg32 erd - k) SameCcr s (s.next 2) t :=
  ⟨_, rfl, gives32 s erd _ s.ccr _ _ fun _ h => h⟩

/-! ### Counting -/

theorem sum_false (a b : BitVec w) : sum a b false = a + b := by simp [sum]

theorem difference_false (a b : BitVec w) : difference a b false = a - b := by simp [difference]

/-- The flags of counting up by `k`: without a carry in, overflow says that the signed sum does not fit. -/
theorem incFlags_of (hw : 0 < w) {a k : BitVec w}
    (h : t.ccr = ((s.setNZ (sum a k false)).setFlag .v (addOverflow a k false)).ccr) :
    t.flag .n = (sum a k false).msb ∧ t.flag .z = isZero (sum a k false) ∧
      t.flag .v = decide (a.toInt + k.toInt ≠ (sum a k false).toInt) ∧ SameFlagsBut [.n, .z, .v] s t := by
  have flags := countFlags_of h
  rwa [addOverflow_eq hw, Bool.toNat_false, Nat.cast_zero, add_zero] at flags

/-- The flags of counting down by `k`: without a borrow in, overflow says that the signed difference does not
fit. -/
theorem decFlags_of (hw : 0 < w) {a k : BitVec w}
    (h : t.ccr = ((s.setNZ (difference a k false)).setFlag .v (subOverflow a k false)).ccr) :
    t.flag .n = (difference a k false).msb ∧ t.flag .z = isZero (difference a k false) ∧
      t.flag .v = decide (a.toInt - k.toInt ≠ (difference a k false).toInt) ∧ SameFlagsBut [.n, .z, .v] s t := by
  have flags := countFlags_of h
  rwa [subOverflow_eq hw, Bool.toNat_false, Nat.cast_zero, sub_zero] at flags

theorem incB_effect (rd : R8) (k : Byte) (s : State) :
    ∃ t, incB rd k s = .next t ∧
      Counts Wrote8 rd (s.reg8 rd + k) ((s.reg8 rd).toInt + k.toInt) s (s.next 2) t := by
  rw [← sum_false]
  exact ⟨_, by cases rd <;> rfl, gives8 s rd _ ((s.setNZ _).setFlag .v (addOverflow (s.reg8 rd) k false)).ccr _ _
    fun _ h => incFlags_of (by decide) h⟩

theorem incW_effect (rd : R16) (k : Word) (s : State) :
    ∃ t, incW rd k s = .next t ∧
      Counts Wrote16 rd (s.reg16 rd + k) ((s.reg16 rd).toInt + k.toInt) s (s.next 2) t := by
  rw [← sum_false]
  exact ⟨_, by cases rd <;> rfl, gives16 s rd _ ((s.setNZ _).setFlag .v (addOverflow (s.reg16 rd) k false)).ccr _ _
    fun _ h => incFlags_of (by decide) h⟩

theorem incL_effect (erd : ER) (k : Long) (s : State) :
    ∃ t, incL erd k s = .next t ∧
      Counts Wrote32 erd (s.reg32 erd + k) ((s.reg32 erd).toInt + k.toInt) s (s.next 2) t := by
  rw [← sum_false]
  exact ⟨_, rfl, gives32 s erd _ ((s.setNZ _).setFlag .v (addOverflow (s.reg32 erd) k false)).ccr _ _
    fun _ h => incFlags_of (by decide) h⟩

theorem decB_effect (rd : R8) (k : Byte) (s : State) :
    ∃ t, decB rd k s = .next t ∧
      Counts Wrote8 rd (s.reg8 rd - k) ((s.reg8 rd).toInt - k.toInt) s (s.next 2) t := by
  rw [← difference_false]
  exact ⟨_, by cases rd <;> rfl, gives8 s rd _ ((s.setNZ _).setFlag .v (subOverflow (s.reg8 rd) k false)).ccr _ _
    fun _ h => decFlags_of (by decide) h⟩

theorem decW_effect (rd : R16) (k : Word) (s : State) :
    ∃ t, decW rd k s = .next t ∧
      Counts Wrote16 rd (s.reg16 rd - k) ((s.reg16 rd).toInt - k.toInt) s (s.next 2) t := by
  rw [← difference_false]
  exact ⟨_, by cases rd <;> rfl, gives16 s rd _ ((s.setNZ _).setFlag .v (subOverflow (s.reg16 rd) k false)).ccr _ _
    fun _ h => decFlags_of (by decide) h⟩

theorem decL_effect (erd : ER) (k : Long) (s : State) :
    ∃ t, decL erd k s = .next t ∧
      Counts Wrote32 erd (s.reg32 erd - k) ((s.reg32 erd).toInt - k.toInt) s (s.next 2) t := by
  rw [← difference_false]
  exact ⟨_, rfl, gives32 s erd _ ((s.setNZ _).setFlag .v (subOverflow (s.reg32 erd) k false)).ccr _ _
    fun _ h => decFlags_of (by decide) h⟩

/-! ### The instructions of R260 to R287 -/

/-- Settles O23: the operand added is an immediate or a register as it is before the instruction. -/
theorem addResult : Obligations.AddResult := by
  intro s
  exact ⟨fun imm rd => addB_effect rd imm 2 s, fun rs rd => addB_effect rd (s.reg8 rs) 2 s,
    fun imm rd => addW_effect rd imm 4 s, fun rs rd => addW_effect rd (s.reg16 rs) 2 s,
    fun imm erd => addL_effect erd imm 6 s, fun ers erd => addL_effect erd (s.reg32 ers) 2 s⟩

/-- Settles O24: the operand subtracted is an immediate or a register as it is before the instruction. -/
theorem subResult : Obligations.SubResult := by
  intro s
  exact ⟨fun rs rd => subB_effect rd (s.reg8 rs) 2 s,
    fun imm rd => subW_effect rd imm 4 s, fun rs rd => subW_effect rd (s.reg16 rs) 2 s,
    fun imm erd => subL_effect erd imm 6 s, fun ers erd => subL_effect erd (s.reg32 ers) 2 s⟩

/-- Settles O25: C and Z are those before the instruction. -/
theorem addxSubx : Obligations.AddxSubx := by
  intro s
  exact ⟨fun imm rd => addxB_effect rd imm s, fun rs rd => addxB_effect rd (s.reg8 rs) s,
    fun imm rd => subxB_effect rd imm s, fun rs rd => subxB_effect rd (s.reg8 rs) s⟩

/-- Settles O26: the six forms differ in the constant alone. -/
theorem addsSubs : Obligations.AddsSubs := by
  intro s erd
  exact ⟨addsL_effect erd 1#32 s, addsL_effect erd 2#32 s, addsL_effect erd 4#32 s,
    subsL_effect erd 1#32 s, subsL_effect erd 2#32 s, subsL_effect erd 4#32 s⟩

/-- Settles O27: counting is by the constant of the form, and the exact result is over the integers. -/
theorem incDec : Obligations.IncDec := by
  intro s
  exact ⟨fun rd => incB_effect rd 1#8 s, fun rd => incW_effect rd 1#16 s, fun rd => incW_effect rd 2#16 s,
    fun erd => incL_effect erd 1#32 s, fun erd => incL_effect erd 2#32 s,
    fun rd => decB_effect rd 1#8 s, fun rd => decW_effect rd 1#16 s, fun rd => decW_effect rd 2#16 s,
    fun erd => decL_effect erd 1#32 s, fun erd => decL_effect erd 2#32 s⟩

/-! ### Decimal adjustment -/

/-- A decimal adjustment by a row of a table: the row's value is added, N and Z come from the result, C is the
row's, H and V may be anything, and one free value is drawn (R290, R295, log 11). -/
def AdjustsBy (rd : R8) (added : Byte) (carry : Bool) : Effect := fun s n t =>
  Wrote8 rd (s.reg8 rd + added) s t ∧ t.flag .n = (s.reg8 rd + added).msb ∧
    t.flag .z = isZero (s.reg8 rd + added) ∧ t.flag .c = carry ∧ SameFlagsBut [.h, .n, .z, .v, .c] s t ∧
    t.pc = n ∧ SameMemory s t ∧ SameControl s t ∧ t.bus = s.bus ∧ t.draws = s.draws + 1

/-- A decimal adjustment with any result and any H, N, Z, V, C; one free value is drawn (logs 11, 15). -/
def AdjustsFreely (rd : R8) : Effect := fun s n t =>
  (∃ v : Byte, Wrote8 rd v s t) ∧ SameFlagsBut [.h, .n, .z, .v, .c] s t ∧ t.pc = n ∧ SameMemory s t ∧
    SameControl s t ∧ t.bus = s.bus ∧ t.draws = s.draws + 1

theorem AdjustsBy.freely {rd : R8} {added : Byte} {carry : Bool} {n : Addr}
    (h : AdjustsBy rd added carry s n t) : AdjustsFreely rd s n t := by
  obtain ⟨wrote, -, -, -, frame⟩ := h
  exact ⟨⟨_, wrote⟩, frame⟩

@[simp] theorem State.drawn_draws (s : State) : s.drawn.draws = s.draws + 1 := rfl

/-- Inside its table a decimal adjustment is by the row. -/
theorem decimalAdjust_some_effect (subtract : Bool) (added : Byte) (carry : Bool) (rd : R8) (s : State) :
    ∃ t, decimalAdjust subtract (some (added, carry)) rd s = .next t ∧ AdjustsBy rd added carry s (s.next 2) t := by
  refine ⟨_, rfl, wrote8_of (by simp), ?_, ?_, ?_, fun f hf => ?_, State.next_congr (by simp) (by simp) 2,
    sameMemory_of (by simp), ?_, by simp, by simp⟩
  · simp [State.flag_setFlag, State.flag_setNZ]
  · simp [State.flag_setFlag, State.flag_setNZ, isZero, beq_eq_decide]
  · simp [State.flag_setFlag]
  · simp_all [State.flag_setFlag, State.flag_setNZ]
  · simp [SameControl]

/-- Inside or outside its table a decimal adjustment leaves the rest of the state alone. -/
theorem decimalAdjust_effect (subtract : Bool) (row : Option (Byte × Bool)) (rd : R8) (s : State) :
    ∃ t, decimalAdjust subtract row rd s = .next t ∧ AdjustsFreely rd s (s.next 2) t := by
  cases row with
  | some row =>
    obtain ⟨t, next, adjusts⟩ := decimalAdjust_some_effect subtract row.1 row.2 rd s
    exact ⟨t, next, adjusts.freely⟩
  | none =>
    refine ⟨_, rfl, ⟨(decimalFree subtract .result rd s).setWidth 8, wrote8_of (by simp)⟩, fun f hf => ?_,
      State.next_congr (by simp) (by simp) 2, sameMemory_of (by simp), ?_, by simp, by simp⟩
    · simp_all [State.flag_setFlag]
    · simp [SameControl]

/-- Settles O29: a row of the table or none. -/
theorem decimalAdjustFrame : Obligations.DecimalAdjustFrame := by
  intro s rd
  exact ⟨decimalAdjust_effect false _ rd s, decimalAdjust_effect true _ rd s⟩

/-- DAA where its table has a row. -/
theorem daa_effect {rd : R8} {added : Byte} {carry : Bool}
    (row : daaRow (s.flag .c) (s.flag .h) (s.reg8 rd) = some (added, carry)) :
    ∃ t, exec (.daa rd) s = .next t ∧ AdjustsBy rd added carry s (s.next 2) t := by
  have meaning : exec (.daa rd) s = decimalAdjust false (daaRow (s.flag .c) (s.flag .h) (s.reg8 rd)) rd s := rfl
  rw [meaning, row]
  exact decimalAdjust_some_effect false added carry rd s

/-- DAS where its table has a row. -/
theorem das_effect {rd : R8} {added : Byte} {carry : Bool}
    (row : dasRow (s.flag .c) (s.flag .h) (s.reg8 rd) = some (added, carry)) :
    ∃ t, exec (.das rd) s = .next t ∧ AdjustsBy rd added carry s (s.next 2) t := by
  have meaning : exec (.das rd) s = decimalAdjust true (dasRow (s.flag .c) (s.flag .h) (s.reg8 rd)) rd s := rfl
  rw [meaning, row]
  exact decimalAdjust_some_effect true added carry rd s

/-- Settles O28: a state that a row of the printed tables covers finds that row in the model's. -/
theorem decimalTables : Obligations.DecimalTables := by
  intro s rd added carry u l effect
  refine ⟨fun covered => daa_effect ?_, fun covered => das_effect ?_⟩
  · rcases covered with row | row | row | row | row | row | row | row | row <;>
      obtain ⟨hc, hu, hh, hl, rfl, rfl⟩ := row <;> simp only [daaRow, hc, hh] <;> grind
  · rcases covered with row | row | row | row <;>
      obtain ⟨hc, hu, hh, hl, rfl, rfl⟩ := row <;> simp only [dasRow, hc, hh] <;> grind

/-! ### Decimal arithmetic -/

/-- Six for each of the two digits that is to be corrected: a binary digit has sixteen values, a decimal one ten. -/
def decimalCorrection : (low high : Bool) → Byte
  | false, false => 0x00#8
  | true, false => 0x06#8
  | false, true => 0x60#8
  | true, true => 0x66#8

theorem decimalCorrection_toNat (low high : Bool) :
    (decimalCorrection low high).toNat = 6 * low.toNat + 96 * high.toNat := by
  cases low <;> cases high <;> rfl

theorem neg_decimalCorrection_toNat (low high : Bool) :
    (-decimalCorrection low high).toNat = (256 - (6 * low.toNat + 96 * high.toNat)) % 256 := by
  cases low <;> cases high <;> rfl

/-- A bit as a number, by the proposition it stands for. -/
theorem toNat_of_iff {x : Bool} {p : Prop} (h : x = true ↔ p) : p ∧ x.toNat = 1 ∨ ¬ p ∧ x.toNat = 0 := by
  cases x <;> simp_all

/-- Inside its table DAA corrects the lower digit where there is a half carry or it is no decimal digit, and the
upper digit where there is a carry or the byte is above 99. -/
theorem daaRow_eq_correction {c h low high : Bool} {b : Byte} (lower : h = true → b.toNat % 16 ≤ 3)
    (upper : c = true → b.toNat / 16 ≤ if h = true then 3 else 2)
    (hlow : low = true ↔ h = true ∨ 10 ≤ b.toNat % 16) (hhigh : high = true ↔ c = true ∨ 0x9A ≤ b.toNat) :
    daaRow c h b = some (decimalCorrection low high, high) := by
  cases h with
  | false =>
    cases c with
    | false => cases low <;> cases high <;> grind [daaRow, decimalCorrection]
    | true =>
      obtain rfl : high = true := hhigh.2 (.inl rfl)
      cases low <;> grind [daaRow, decimalCorrection]
  | true =>
    obtain rfl : low = true := hlow.2 (.inl rfl)
    cases c with
    | false => cases high <;> grind [daaRow, decimalCorrection]
    | true =>
      obtain rfl : high = true := hhigh.2 (.inl rfl)
      grind [daaRow, decimalCorrection]

/-- Inside its table DAS corrects the lower digit where there is a half borrow and the upper digit where there is a
borrow. -/
theorem dasRow_eq_correction {c h : Bool} {b : Byte}
    (lower : if h = true then 6 ≤ b.toNat % 16 else b.toNat % 16 ≤ 9)
    (upper : if c = true then 7 ≤ b.toNat / 16 + h.toNat else b.toNat / 16 + h.toNat ≤ 9) :
    dasRow c h b = some (-decimalCorrection h c, c) := by
  cases c <;> cases h <;> exact if_pos (by grind)

/-! The sum and the difference of two bytes, as two digits of sixteen values and, corrected, as two of ten. -/

section

variable {a b : Byte} {c half carry low high : Bool}

theorem sum_digits (hhalf : half = true ↔ 16 ≤ a.toNat % 16 + b.toNat % 16 + c.toNat)
    (hcarry : carry = true ↔ 256 ≤ a.toNat + b.toNat + c.toNat) :
    (sum a b c).toNat / 16 + 16 * carry.toNat = a.toNat / 16 + b.toNat / 16 + half.toNat ∧
      (sum a b c).toNat % 16 + 16 * half.toNat = a.toNat % 16 + b.toNat % 16 + c.toNat := by
  have hc := Bool.toNat_le c
  rw [sum_toNat]
  rcases toNat_of_iff hhalf with ⟨_, half⟩ | ⟨_, half⟩ <;>
    rcases toNat_of_iff hcarry with ⟨_, carry⟩ | ⟨_, carry⟩ <;> omega

theorem difference_toNat (a b : Byte) (c : Bool) :
    (difference a b c).toNat = (a.toNat + (512 - (b.toNat + c.toNat))) % 256 := by
  have hc := Bool.toNat_le c
  simp only [difference, BitVec.toNat_sub, BitVec.toNat_ofNat]
  omega

theorem difference_digits (hhalf : half = true ↔ a.toNat % 16 < b.toNat % 16 + c.toNat)
    (hcarry : carry = true ↔ a.toNat < b.toNat + c.toNat) :
    (difference a b c).toNat / 16 + b.toNat / 16 + half.toNat = a.toNat / 16 + 16 * carry.toNat ∧
      (difference a b c).toNat % 16 + b.toNat % 16 + c.toNat = a.toNat % 16 + 16 * half.toNat := by
  have hc := Bool.toNat_le c
  rw [difference_toNat]
  rcases toNat_of_iff hhalf with ⟨_, half⟩ | ⟨_, half⟩ <;>
    rcases toNat_of_iff hcarry with ⟨_, carry⟩ | ⟨_, carry⟩ <;> omega

/-- Decimal digits come of a sum if the lower digit is corrected where the lower digits make ten or more, and the
upper digit where the numbers make a hundred or more. -/
theorem sum_corrected_digits (ha : IsDecimal a) (hb : IsDecimal b)
    (hlow : low = true ↔ 10 ≤ a.toNat % 16 + b.toNat % 16 + c.toNat)
    (hhigh : high = true ↔ 100 ≤ decimalValue a + decimalValue b + c.toNat) :
    (sum a b c + decimalCorrection low high).toNat / 16 + 10 * high.toNat = a.toNat / 16 + b.toNat / 16 + low.toNat ∧
      (sum a b c + decimalCorrection low high).toNat % 16 + 10 * low.toNat =
        a.toNat % 16 + b.toNat % 16 + c.toNat := by
  obtain ⟨ha1, ha2⟩ := ha
  obtain ⟨hb1, hb2⟩ := hb
  have hc := Bool.toNat_le c
  unfold decimalValue at hhigh
  rw [BitVec.toNat_add, sum_toNat, decimalCorrection_toNat]
  rcases toNat_of_iff hlow with ⟨_, low⟩ | ⟨_, low⟩ <;>
    rcases toNat_of_iff hhigh with ⟨_, high⟩ | ⟨_, high⟩ <;> omega

/-- Decimal digits come of a difference if six is taken from each digit that borrows. -/
theorem difference_corrected_digits (ha : IsDecimal a) (hb : IsDecimal b)
    (hhalf : half = true ↔ a.toNat % 16 < b.toNat % 16 + c.toNat)
    (hcarry : carry = true ↔ a.toNat < b.toNat + c.toNat) :
    (difference a b c + -decimalCorrection half carry).toNat / 16 + b.toNat / 16 + half.toNat =
        a.toNat / 16 + 10 * carry.toNat ∧
      (difference a b c + -decimalCorrection half carry).toNat % 16 + b.toNat % 16 + c.toNat =
        a.toNat % 16 + 10 * half.toNat := by
  obtain ⟨ha1, ha2⟩ := ha
  obtain ⟨hb1, hb2⟩ := hb
  have hc := Bool.toNat_le c
  rw [BitVec.toNat_add, difference_toNat, neg_decimalCorrection_toNat]
  rcases toNat_of_iff hhalf with ⟨_, half⟩ | ⟨_, half⟩ <;>
    rcases toNat_of_iff hcarry with ⟨_, carry⟩ | ⟨_, carry⟩ <;> omega

theorem sum_corrected (ha : IsDecimal a) (hb : IsDecimal b)
    (hlow : low = true ↔ 10 ≤ a.toNat % 16 + b.toNat % 16 + c.toNat)
    (hhigh : high = true ↔ 100 ≤ decimalValue a + decimalValue b + c.toNat) :
    IsDecimal (sum a b c + decimalCorrection low high) ∧
      decimalValue (sum a b c + decimalCorrection low high) + 100 * high.toNat =
        decimalValue a + decimalValue b + c.toNat := by
  obtain ⟨upper, lower⟩ := sum_corrected_digits ha hb hlow hhigh
  have hc := Bool.toNat_le c
  have lowBit := toNat_of_iff hlow
  have highBit := toNat_of_iff hhigh
  unfold IsDecimal decimalValue at *
  omega

theorem difference_corrected (ha : IsDecimal a) (hb : IsDecimal b)
    (hhalf : half = true ↔ a.toNat % 16 < b.toNat % 16 + c.toNat)
    (hcarry : carry = true ↔ a.toNat < b.toNat + c.toNat) :
    IsDecimal (difference a b c + -decimalCorrection half carry) ∧
      decimalValue (difference a b c + -decimalCorrection half carry) + decimalValue b + c.toNat =
        decimalValue a + 100 * carry.toNat := by
  obtain ⟨upper, lower⟩ := difference_corrected_digits ha hb hhalf hcarry
  have hc := Bool.toNat_le c
  have halfBit := toNat_of_iff hhalf
  have carryBit := toNat_of_iff hcarry
  unfold IsDecimal decimalValue at *
  omega

/-- After the sum of two decimal numbers DAA finds a row, which corrects the sum. -/
theorem daaRow_of_sum (ha : IsDecimal a) (hb : IsDecimal b)
    (hhalf : half = true ↔ 16 ≤ a.toNat % 16 + b.toNat % 16 + c.toNat)
    (hcarry : carry = true ↔ 256 ≤ a.toNat + b.toNat + c.toNat)
    (hlow : low = true ↔ 10 ≤ a.toNat % 16 + b.toNat % 16 + c.toNat)
    (hhigh : high = true ↔ 100 ≤ decimalValue a + decimalValue b + c.toNat) :
    daaRow carry half (sum a b c) = some (decimalCorrection low high, high) := by
  obtain ⟨ha1, ha2⟩ := ha
  obtain ⟨hb1, hb2⟩ := hb
  obtain ⟨upper, lower⟩ := sum_digits hhalf hcarry
  have hc := Bool.toNat_le c
  have halfBit := toNat_of_iff hhalf
  have carryBit := toNat_of_iff hcarry
  unfold decimalValue at hhigh
  apply daaRow_eq_correction <;> simp only [hhalf, hcarry, hlow, hhigh]
  · omega
  · split <;> omega
  · omega
  · omega

/-- After the difference of two decimal numbers DAS finds a row, which corrects the difference. -/
theorem dasRow_of_difference (ha : IsDecimal a) (hb : IsDecimal b)
    (hhalf : half = true ↔ a.toNat % 16 < b.toNat % 16 + c.toNat)
    (hcarry : carry = true ↔ a.toNat < b.toNat + c.toNat) :
    dasRow carry half (difference a b c) = some (-decimalCorrection half carry, carry) := by
  obtain ⟨ha1, ha2⟩ := ha
  obtain ⟨hb1, hb2⟩ := hb
  obtain ⟨upper, lower⟩ := difference_digits hhalf hcarry
  have hc := Bool.toNat_le c
  have halfBit := toNat_of_iff hhalf
  have carryBit := toNat_of_iff hcarry
  apply dasRow_eq_correction <;> simp only [hhalf, hcarry] <;> split <;> omega

end

/-! The instructions, one after the other. -/

section

variable {rd : R8} {a b : Byte} {c : Bool} {z : Byte → Bool} {n : Addr} {first : Result}

theorem daa_after_sum (ha : IsDecimal a) (hb : IsDecimal b)
    (law : ∃ t, first = .next t ∧ Adds Wrote8 rd a b c z s n t) :
    ∃ t u, first = .next t ∧ exec (.daa rd) t = .next u ∧ IsDecimal (u.reg8 rd) ∧
      decimalValue (u.reg8 rd) + 100 * (u.flag .c).toNat = decimalValue a + decimalValue b + c.toNat := by
  obtain ⟨t, next, ⟨result, -, -⟩, ⟨⟨half, -, -, carry, -⟩, -⟩, -⟩ := law
  have result : t.reg8 rd = sum a b c := result
  have hhalf : t.flag .h = true ↔ 16 ≤ a.toNat % 16 + b.toNat % 16 + c.toNat := half ▸ decide_eq_true_iff
  have hcarry : t.flag .c = true ↔ 256 ≤ a.toNat + b.toNat + c.toNat := carry ▸ decide_eq_true_iff
  have row := daaRow_of_sum ha hb hhalf hcarry decide_eq_true_iff decide_eq_true_iff
  rw [← result] at row
  obtain ⟨u, adjusted, ⟨digits, -, -⟩, -, -, hundred, -⟩ := daa_effect row
  refine ⟨t, u, next, adjusted, ?_⟩
  rw [digits, result, hundred]
  exact sum_corrected ha hb decide_eq_true_iff decide_eq_true_iff

theorem das_after_difference (ha : IsDecimal a) (hb : IsDecimal b)
    (law : ∃ t, first = .next t ∧ Subtracts Wrote8 rd a b c z s n t) :
    ∃ t u, first = .next t ∧ exec (.das rd) t = .next u ∧ IsDecimal (u.reg8 rd) ∧
      decimalValue (u.reg8 rd) + decimalValue b + c.toNat = decimalValue a + 100 * (u.flag .c).toNat := by
  obtain ⟨t, next, ⟨result, -, -⟩, ⟨⟨half, -, -, carry, -⟩, -⟩, -⟩ := law
  have result : t.reg8 rd = difference a b c := result
  have hhalf : t.flag .h = true ↔ a.toNat % 16 < b.toNat % 16 + c.toNat := half ▸ decide_eq_true_iff
  have hcarry : t.flag .c = true ↔ a.toNat < b.toNat + c.toNat := carry ▸ decide_eq_true_iff
  have row := dasRow_of_difference ha hb hhalf hcarry
  rw [← result] at row
  obtain ⟨u, adjusted, ⟨digits, -, -⟩, -, -, hundred, -⟩ := das_effect row
  refine ⟨t, u, next, adjusted, ?_⟩
  rw [digits, result, hundred]
  exact difference_corrected ha hb hhalf hcarry

theorem daa_after_sum_without_carry (ha : IsDecimal a) (hb : IsDecimal b)
    (law : ∃ t, first = .next t ∧ Adds Wrote8 rd a b false z s n t) :
    ∃ t u, first = .next t ∧ exec (.daa rd) t = .next u ∧ IsDecimal (u.reg8 rd) ∧
      decimalValue (u.reg8 rd) + 100 * (u.flag .c).toNat = decimalValue a + decimalValue b := by
  simpa only [Bool.toNat_false, Nat.add_zero] using daa_after_sum ha hb law

theorem das_after_difference_without_borrow (ha : IsDecimal a) (hb : IsDecimal b)
    (law : ∃ t, first = .next t ∧ Subtracts Wrote8 rd a b false z s n t) :
    ∃ t u, first = .next t ∧ exec (.das rd) t = .next u ∧ IsDecimal (u.reg8 rd) ∧
      decimalValue (u.reg8 rd) + decimalValue b = decimalValue a + 100 * (u.flag .c).toNat := by
  simpa only [Bool.toNat_false, Nat.add_zero] using das_after_difference ha hb law

end

/-- NEG.B subtracts the register from zero (R340). -/
theorem negB_effect (rd : R8) (s : State) :
    ∃ t, execNegB rd s = .next t ∧ Subtracts Wrote8 rd 0#8 (s.reg8 rd) false isZero s (s.next 2) t :=
  ⟨_, by cases rd <;> rfl, gives8 s rd _ (s.setSubFlags 0#8 (s.reg8 rd) false).ccr _ _
    fun _ h => subFlags_of (by decide) h⟩

/-- Settles O30: the first instruction is the sum or the difference of two decimal numbers, with C as carry or borrow
in for ADDX and SUBX, and NEG.B is the difference from zero. -/
theorem decimalArithmetic : Obligations.DecimalArithmetic := by
  intro s rd ha a c
  have decimalZero : IsDecimal 0#8 := ⟨by decide, by decide⟩
  refine ⟨fun rs hb => ⟨daa_after_sum_without_carry ha hb (addB_effect rd (s.reg8 rs) 2 s),
      daa_after_sum ha hb (addxB_effect rd (s.reg8 rs) s),
      das_after_difference_without_borrow ha hb (subB_effect rd (s.reg8 rs) 2 s),
      das_after_difference ha hb (subxB_effect rd (s.reg8 rs) s)⟩,
    fun imm hb => ⟨daa_after_sum_without_carry ha hb (addB_effect rd imm 2 s),
      daa_after_sum ha hb (addxB_effect rd imm s),
      das_after_difference ha hb (subxB_effect rd imm s)⟩, ?_⟩
  obtain ⟨t, u, negated, adjusted, decimal, value⟩ :=
    das_after_difference_without_borrow decimalZero ha (negB_effect rd s)
  exact ⟨t, u, negated, adjusted, decimal, value.trans (Nat.zero_add _)⟩

end Sys2Proof.Machine

/-! O31 to O36: multiplication, division, comparison, negation and extension. The laws Sys2Proof/Laws/ does not have
come first, for every width; an instruction is its law on its operands. -/

namespace Sys2Proof.Machine

variable {s t : State} {w : Nat}

/-! ### The lower half of a register as a number -/

/-- The lower half taken without its sign is the register modulo two to the width of the half. -/
theorem zeroExtend_lowHalf (a : BitVec (w + w)) :
    (a.setWidth w).setWidth (w + w) = BitVec.ofNat (w + w) (a.toNat % 2 ^ w) := by
  apply BitVec.eq_of_toNat_eq
  simp

/-- The unsigned product of the lower half (R320, R321): factors extended first leave no bit of it out. -/
theorem zeroExtend_mul (a : BitVec (w + w)) (b : BitVec w) :
    (a.setWidth w).setWidth (w + w) * b.setWidth (w + w) = BitVec.ofNat (w + w) (a.toNat % 2 ^ w * b.toNat) := by
  rw [zeroExtend_lowHalf, BitVec.ofNat_mul, ← BitVec.ofNat_toNat]

/-- The signed product (R322, R323). -/
theorem signExtend_mul (a b : BitVec w) (k : Nat) :
    a.signExtend k * b.signExtend k = BitVec.ofInt k (a.toInt * b.toInt) :=
  (BitVec.ofInt_mul a.toInt b.toInt).symm

/-! ### Multiplication -/

theorem mulxuB_effect (rs : R8) (rd : R16) (s : State) : Runs (.mulxuB rs rd) s
    (Gives Wrote16 rd (BitVec.ofNat 16 ((s.reg16 rd).toNat % 256 * (s.reg8 rs).toNat)) SameCcr) := by
  have product : ((s.reg16 rd).setWidth 8).setWidth 16 * (s.reg8 rs).setWidth 16 =
      BitVec.ofNat 16 ((s.reg16 rd).toNat % 256 * (s.reg8 rs).toNat) := zeroExtend_mul (w := 8) _ _
  rw [← product]
  exact ⟨_, by cases rd <;> rfl, gives16 s rd _ s.ccr _ _ fun _ h => h⟩

theorem mulxuW_effect (rs : R16) (erd : ER) (s : State) : Runs (.mulxuW rs erd) s
    (Gives Wrote32 erd (BitVec.ofNat 32 ((s.reg32 erd).toNat % 65536 * (s.reg16 rs).toNat)) SameCcr) := by
  have product : ((s.reg32 erd).setWidth 16).setWidth 32 * (s.reg16 rs).setWidth 32 =
      BitVec.ofNat 32 ((s.reg32 erd).toNat % 65536 * (s.reg16 rs).toNat) := zeroExtend_mul (w := 16) _ _
  rw [← product]
  exact ⟨_, rfl, gives32 s erd _ s.ccr _ _ fun _ h => h⟩

theorem mulxsB_effect (rs : R8) (rd : R16) (s : State) :
    let p := BitVec.ofInt 16 (((s.reg16 rd).setWidth 8).toInt * (s.reg8 rs).toInt)
    Runs (.mulxsB rs rd) s (Gives Wrote16 rd p (NZFlags p.msb (isZero p))) := by
  rw [← signExtend_mul]
  exact ⟨_, by cases rd <;> rfl, gives16 s rd _ (s.setNZ _).ccr _ _ fun _ h => productFlags_of h⟩

theorem mulxsW_effect (rs : R16) (erd : ER) (s : State) :
    let p := BitVec.ofInt 32 (((s.reg32 erd).setWidth 16).toInt * (s.reg16 rs).toInt)
    Runs (.mulxsW rs erd) s (Gives Wrote32 erd p (NZFlags p.msb (isZero p))) := by
  rw [← signExtend_mul]
  exact ⟨_, rfl, gives32 s erd _ (s.setNZ _).ccr _ _ fun _ h => productFlags_of h⟩

/-- Settles O31: both factors are read before the destination is written, so they may be one register. -/
theorem multiplyResults : Obligations.MultiplyResults := by
  intro s
  exact ⟨fun rs rd => mulxuB_effect rs rd s, fun rs erd => mulxuW_effect rs erd s,
    fun rs rd => mulxsB_effect rs rd s, fun rs erd => mulxsW_effect rs erd s⟩

/-! ### Division -/

/-- A division with any result: N and Z take values, and nothing else changes but the number of free values drawn
(D11, log 14). -/
def DividesFreely {α : Type} {m : Nat} (Wrote : α → BitVec m → State → State → Prop) (rd : α) (n z : Bool) :
    Effect := fun s next t =>
  (∃ v, Wrote rd v s t) ∧ NZFlags n z s t ∧ t.pc = next ∧ SameMemory s t ∧ SameControl s t ∧ t.bus = s.bus

/-- A division whose result, where it has one, is `q`, and which draws no free value there (R325, R328). -/
def Divides {α : Type} {m : Nat} (Wrote : α → BitVec m → State → State → Prop) (rd : α) (q : Option (BitVec m))
    (n z : Bool) : Effect := fun s next t =>
  DividesFreely Wrote rd n z s next t ∧ ∀ v, q = some v → Wrote rd v s t ∧ t.draws = s.draws

/-- Where a division has a result, the register holds it and nothing else changes. -/
theorem Divides.gives {α : Type} {m : Nat} {Wrote : α → BitVec m → State → State → Prop} {rd : α} {v : BitVec m}
    {n z : Bool} {next : Addr} (h : Divides Wrote rd (some v) n z s next t) :
    Gives Wrote rd v (NZFlags n z) s next t := by
  obtain ⟨⟨-, flags, pc, memory, control, bus⟩, result⟩ := h
  obtain ⟨wrote, draws⟩ := result v rfl
  exact ⟨wrote, flags, pc, memory, control, bus, draws⟩

/-- A result put into Rd: the quotient's, or any value with any number of draws where there is none. -/
theorem putQuotientB_cases (signed : Bool) (q : Option Word) (rs : R8) (rd : R16) (s : State) :
    ∃ v d, putQuotientB signed q rs rd s = { s.setReg16 rd v with draws := d } ∧
      ∀ x, q = some x → v = x ∧ d = s.draws := by
  cases q with
  | some v => exact ⟨v, s.draws, by cases rd <;> rfl, fun x hx => ⟨Option.some.inj hx, rfl⟩⟩
  | none => exact ⟨_, _, rfl, nofun⟩

theorem putQuotientW_cases (signed : Bool) (q : Option Long) (rs : R16) (erd : ER) (s : State) :
    ∃ v d, putQuotientW signed q rs erd s = { s.setReg32 erd v with draws := d } ∧
      ∀ x, q = some x → v = x ∧ d = s.draws := by
  cases q with
  | some v => exact ⟨v, s.draws, rfl, fun x hx => ⟨Option.some.inj hx, rfl⟩⟩
  | none => exact ⟨_, _, rfl, nofun⟩

/-- The result is put into the register first, then N and Z are set. -/
theorem divideB_effect (signed : Bool) (q : Option Word) (rs : R8) (rd : R16) (n z : Bool) (k : Nat) (s : State) :
    Divides Wrote16 rd q n z s (s.next k) (((putQuotientB signed q rs rd s).setDivFlags n z).advance k) := by
  obtain ⟨v, d, put, result⟩ := putQuotientB_cases signed q rs rd s
  rw [put]
  refine ⟨⟨⟨v, wrote16_of rfl⟩, divFlags_of ?_, State.next_congr (by simp) (by simp) k, sameMemory_of (by simp), ?_,
    by simp⟩, fun x hx => ?_⟩
  · simp [State.setDivFlags, State.setFlag]
  · simp [SameControl]
  · obtain ⟨rfl, rfl⟩ := result x hx
    exact ⟨wrote16_of rfl, rfl⟩

theorem divideW_effect (signed : Bool) (q : Option Long) (rs : R16) (erd : ER) (n z : Bool) (k : Nat) (s : State) :
    Divides Wrote32 erd q n z s (s.next k) (((putQuotientW signed q rs erd s).setDivFlags n z).advance k) := by
  obtain ⟨v, d, put, result⟩ := putQuotientW_cases signed q rs erd s
  rw [put]
  refine ⟨⟨⟨v, wrote32_of rfl⟩, divFlags_of ?_, State.next_congr (by simp) (by simp) k, sameMemory_of (by simp), ?_,
    by simp⟩, fun x hx => ?_⟩
  · simp [State.setDivFlags, State.setFlag]
  · simp [SameControl]
  · obtain ⟨rfl, rfl⟩ := result x hx
    exact ⟨wrote32_of rfl, rfl⟩

/-- The sign of a quotient as the model computes it and as Safety says it. -/
theorem bne_eq_decide_ne (a b : Bool) : (a != b) = decide (a ≠ b) := by
  rw [bne, beq_eq_decide, decide_not]

theorem divxuB_effect (rs : R8) (rd : R16) (s : State) : Runs (.divxuB rs rd) s
    (Divides Wrote16 rd (divideUnsigned (s.reg16 rd) (s.reg8 rs)) (s.reg8 rs).msb (isZero (s.reg8 rs))) :=
  ⟨_, rfl, divideB_effect false _ rs rd _ _ 2 s⟩

theorem divxuW_effect (rs : R16) (erd : ER) (s : State) : Runs (.divxuW rs erd) s
    (Divides Wrote32 erd (divideUnsigned (s.reg32 erd) (s.reg16 rs)) (s.reg16 rs).msb (isZero (s.reg16 rs))) :=
  ⟨_, rfl, divideW_effect false _ rs erd _ _ 2 s⟩

theorem divxsB_effect (rs : R8) (rd : R16) (s : State) : Runs (.divxsB rs rd) s
    (Divides Wrote16 rd (divideSigned (s.reg16 rd) (s.reg8 rs)) (decide ((s.reg16 rd).msb ≠ (s.reg8 rs).msb))
      (isZero (s.reg8 rs))) := by
  rw [← bne_eq_decide_ne]
  exact ⟨_, rfl, divideB_effect true _ rs rd _ _ 4 s⟩

theorem divxsW_effect (rs : R16) (erd : ER) (s : State) : Runs (.divxsW rs erd) s
    (Divides Wrote32 erd (divideSigned (s.reg32 erd) (s.reg16 rs)) (decide ((s.reg32 erd).msb ≠ (s.reg16 rs).msb))
      (isZero (s.reg16 rs))) := by
  rw [← bne_eq_decide_ne]
  exact ⟨_, rfl, divideW_effect true _ rs erd _ _ 4 s⟩

section
variable {α : Type} {m : Nat} {Wrote : α → BitVec m → State → State → Prop} {rd : α} {q : Option (BitVec m)}
  {n : Bool} {i : Instr} {d : BitVec w}

theorem isZero_eq_false (h : d ≠ 0) : isZero d = false := decide_eq_false h

/-- A division that has a result gives it, and its Z is clear where the divisor is not zero. -/
theorem gives_of_divides {v : BitVec m} (law : Runs i s (Divides Wrote rd q n (isZero d))) (result : q = some v)
    (nonzero : d ≠ 0) : Runs i s (Gives Wrote rd v (NZFlags n false)) := by
  subst result
  rw [isZero_eq_false nonzero] at law
  obtain ⟨t, next, divides⟩ := law
  exact ⟨t, next, divides.gives⟩

theorem freely_of_divides {z : Bool} (law : Runs i s (Divides Wrote rd q n z)) :
    Runs i s (DividesFreely Wrote rd n z) := by
  obtain ⟨t, next, frame, -⟩ := law
  exact ⟨t, next, frame⟩

/-- Unsigned division where the quotient fits. -/
theorem gives_of_divideUnsigned {a : BitVec (w + w)} {Wrote : α → BitVec (w + w) → State → State → Prop}
    (law : Runs i s (Divides Wrote rd (divideUnsigned a d) n (isZero d))) (nonzero : d.toNat ≠ 0)
    (fits : a.toNat / d.toNat < 2 ^ w) :
    ∃ r q, DividesUnsigned a d r q ∧ Runs i s (Gives Wrote rd (r ++ q) (NZFlags n false)) := by
  obtain ⟨r, q, divides, result⟩ := divideUnsigned_of a d nonzero fits
  exact ⟨r, q, divides, gives_of_divides law result (by rintro rfl; exact nonzero BitVec.toNat_zero)⟩

/-- Signed division where the quotient fits. -/
theorem gives_of_divideSigned (hw : 0 < w) {a : BitVec (w + w)} {Wrote : α → BitVec (w + w) → State → State → Prop}
    (law : Runs i s (Divides Wrote rd (divideSigned a d) n (isZero d))) (nonzero : d.toInt ≠ 0)
    (least : -2 ^ (w - 1) ≤ a.toInt.tdiv d.toInt) (most : a.toInt.tdiv d.toInt < 2 ^ (w - 1)) :
    ∃ r q, DividesSigned a d r q ∧ Runs i s (Gives Wrote rd (r ++ q) (NZFlags n false)) := by
  obtain ⟨r, q, divides, result⟩ := divideSigned_of hw a d nonzero least most
  exact ⟨r, q, divides, gives_of_divides law result (by rintro rfl; exact nonzero BitVec.toInt_zero)⟩

end

/-- Settles O32: a divisor that is not zero and a quotient that fits are where the model's division has a result. -/
theorem divideResults : Obligations.DivideResults := by
  intro s
  exact ⟨fun rs rd => gives_of_divideUnsigned (divxuB_effect rs rd s),
    fun rs erd => gives_of_divideUnsigned (divxuW_effect rs erd s),
    fun rs rd => gives_of_divideSigned (by decide) (divxsB_effect rs rd s),
    fun rs erd => gives_of_divideSigned (by decide) (divxsW_effect rs erd s)⟩

/-- Settles O33: what a division leaves alone does not depend on whether it has a result. -/
theorem divideFrame : Obligations.DivideFrame := by
  intro s
  exact ⟨fun rs rd => freely_of_divides (divxuB_effect rs rd s),
    fun rs erd => freely_of_divides (divxuW_effect rs erd s),
    fun rs rd => freely_of_divides (divxsB_effect rs rd s), fun rs erd => freely_of_divides (divxsW_effect rs erd s)⟩

/-! ### Comparison -/

/-- A comparison is a subtraction whose difference goes nowhere (R335). -/
theorem compareWith_effect (a b : BitVec w) (hw : 5 ≤ w) (k : Nat) (s : State) :
    ∃ t, compareWith a b k s = .next t ∧ Compares a b s (s.next k) t := by
  obtain ⟨flags, zero⟩ := subFlags_of hw (s := s) (a := a) (b := b) (c := false)
    (t := (s.setSubFlags a b false).advance k) (by simp)
  rw [difference_false] at zero
  exact ⟨_, rfl, sameRegs_of (by simp), flags, zero, by simp, Rest.quiet (by constructor <;> simp)⟩

/-- Settles O34: the operand compared with is an immediate or a register. -/
theorem compareSetsFlags : Obligations.CompareSetsFlags := by
  intro s
  exact ⟨fun imm rd => compareWith_effect (s.reg8 rd) imm (by decide) 2 s,
    fun rs rd => compareWith_effect (s.reg8 rd) (s.reg8 rs) (by decide) 2 s,
    fun imm rd => compareWith_effect (s.reg16 rd) imm (by decide) 4 s,
    fun rs rd => compareWith_effect (s.reg16 rd) (s.reg16 rs) (by decide) 2 s,
    fun imm erd => compareWith_effect (s.reg32 erd) imm (by decide) 6 s,
    fun ers erd => compareWith_effect (s.reg32 erd) (s.reg32 ers) (by decide) 2 s⟩

/-! ### Negation -/

/-- The flags of NEG, from the operand (R340). -/
def NegFlags (a : BitVec w) (s t : State) : Prop :=
  t.flag .h = decide (a.toNat % 2 ^ (w - 4) ≠ 0) ∧ t.flag .n = (-a).msb ∧ t.flag .z = isZero a ∧
    t.flag .v = decide (a = BitVec.intMin w) ∧ t.flag .c = decide (a ≠ 0) ∧ SameFlagsBut [.h, .n, .z, .v, .c] s t

theorem isZero_neg (a : BitVec w) : isZero (-a) = isZero a := by
  simp [isZero]

/-- The negation of a signed number fits except for the most negative one. -/
theorem neg_toInt_ne_iff (hw : 0 < w) (a : BitVec w) : -a.toInt ≠ (-a).toInt ↔ a = BitVec.intMin w := by
  rw [BitVec.toInt_neg_eq_ite]
  split
  case isTrue least =>
    have : (0 : Int) < 2 ^ (w - 1) := by positivity
    rw [least, BitVec.toInt_intMin_of_pos hw]
    exact iff_of_true (by omega) rfl
  case isFalse other => exact iff_of_false (fun h => h rfl) other

/-- Subtracted from zero, a number that is not zero borrows, in every field of bits. -/
theorem negFlags_of (hw : 0 < w) {a : BitVec w} (flags : SubFlags 0 a false s t) (zero : t.flag .z = isZero (-a)) :
    NegFlags a s t := by
  obtain ⟨half, sign, overflow, carry, others⟩ := flags
  simp only [Bool.toNat_false, BitVec.ofNat_eq_ofNat, BitVec.sub_zero, BitVec.zero_sub] at sign overflow
  refine ⟨?_, sign, zero.trans (isZero_neg a), ?_, ?_, others⟩
  · simpa [Nat.pos_iff_ne_zero] using half
  · rw [overflow, decide_eq_decide, ← neg_toInt_ne_iff hw a]
    simp
  · rw [carry, decide_eq_decide]
    simp [Nat.pos_iff_ne_zero, BitVec.toNat_eq]

/-- What subtracts a register from zero negates it. -/
theorem negates_of_subtracts {α : Type} {Wrote : α → BitVec w → State → State → Prop} {rd : α} {a : BitVec w}
    {n : Addr} {r : Result} (hw : 0 < w) (law : ∃ t, r = .next t ∧ Subtracts Wrote rd 0 a false isZero s n t) :
    ∃ t, r = .next t ∧ Gives Wrote rd (-a) (NegFlags a) s n t := by
  obtain ⟨t, next, wrote, ⟨flags, zero⟩, rest⟩ := law
  have negation : (0 : BitVec w) - a - BitVec.ofNat w false.toNat = -a := by simp
  rw [negation] at wrote zero
  exact ⟨t, next, wrote, negFlags_of hw flags zero, rest⟩

theorem negW_effect (rd : R16) (s : State) :
    ∃ t, execNegW rd s = .next t ∧ Subtracts Wrote16 rd 0#16 (s.reg16 rd) false isZero s (s.next 2) t :=
  ⟨_, by cases rd <;> rfl, gives16 s rd _ (s.setSubFlags 0#16 (s.reg16 rd) false).ccr _ _
    fun _ h => subFlags_of (by decide) h⟩

theorem negL_effect (erd : ER) (s : State) :
    ∃ t, execNegL erd s = .next t ∧ Subtracts Wrote32 erd 0#32 (s.reg32 erd) false isZero s (s.next 2) t :=
  ⟨_, rfl, gives32 s erd _ (s.setSubFlags 0#32 (s.reg32 erd) false).ccr _ _
    fun _ h => subFlags_of (by decide) h⟩

/-- Settles O35: the most negative number of a width is the one with the sign bit alone. -/
theorem negateResults : Obligations.NegateResults := by
  intro s
  exact ⟨fun rd => negates_of_subtracts (by decide) (negB_effect rd s),
    fun rd => negates_of_subtracts (by decide) (negW_effect rd s),
    fun erd => negates_of_subtracts (by decide) (negL_effect erd s)⟩

/-! ### Extension -/

/-- Settles O36: the extended lower half is moved to the register, with the flags of a transfer. -/
theorem extendResults : Obligations.ExtendResults := by
  intro s
  refine ⟨fun rd => moveW_effect rd _ 2 s, fun erd => moveL_effect erd _ 2 s, fun rd => ?_, fun erd => ?_⟩
  · have low : ((s.reg16 rd).setWidth 8).setWidth 16 = BitVec.ofNat 16 ((s.reg16 rd).toNat % 256) :=
      zeroExtend_lowHalf (w := 8) _
    rw [← low]
    exact moveW_effect rd _ 2 s
  · have low : ((s.reg32 erd).setWidth 16).setWidth 32 = BitVec.ofNat 32 ((s.reg32 erd).toNat % 65536) :=
      zeroExtend_lowHalf (w := 16) _
    rw [← low]
    exact moveL_effect erd _ 2 s

end Sys2Proof.Machine

/-! O37: the logic operations. Each instruction is the shared logic operation of its size (Sys2Proof/Laws/) on the
function of its operands, which are read before the destination is written, so they may be one register. -/

namespace Sys2Proof.Machine

/-- Settles O37: AND, OR and XOR in their six forms, an immediate and a register of each size, then NOT. -/
theorem logicResults : Obligations.LogicResults := by
  intro s
  exact ⟨fun imm rd => runs_of_effect (logicB_effect rd (s.reg8 rd &&& imm)) rfl,
    fun rs rd => runs_of_effect (logicB_effect rd (s.reg8 rd &&& s.reg8 rs)) rfl,
    fun imm rd => runs_of_effect (logicW_effect rd (s.reg16 rd &&& imm)) rfl,
    fun rs rd => runs_of_effect (logicW_effect rd (s.reg16 rd &&& s.reg16 rs)) rfl,
    fun imm erd => runs_of_effect (logicL_effect erd (s.reg32 erd &&& imm)) rfl,
    fun ers erd => runs_of_effect (logicL_effect erd (s.reg32 erd &&& s.reg32 ers)) rfl,
    fun imm rd => runs_of_effect (logicB_effect rd (s.reg8 rd ||| imm)) rfl,
    fun rs rd => runs_of_effect (logicB_effect rd (s.reg8 rd ||| s.reg8 rs)) rfl,
    fun imm rd => runs_of_effect (logicW_effect rd (s.reg16 rd ||| imm)) rfl,
    fun rs rd => runs_of_effect (logicW_effect rd (s.reg16 rd ||| s.reg16 rs)) rfl,
    fun imm erd => runs_of_effect (logicL_effect erd (s.reg32 erd ||| imm)) rfl,
    fun ers erd => runs_of_effect (logicL_effect erd (s.reg32 erd ||| s.reg32 ers)) rfl,
    fun imm rd => runs_of_effect (logicB_effect rd (s.reg8 rd ^^^ imm)) rfl,
    fun rs rd => runs_of_effect (logicB_effect rd (s.reg8 rd ^^^ s.reg8 rs)) rfl,
    fun imm rd => runs_of_effect (logicW_effect rd (s.reg16 rd ^^^ imm)) rfl,
    fun rs rd => runs_of_effect (logicW_effect rd (s.reg16 rd ^^^ s.reg16 rs)) rfl,
    fun imm erd => runs_of_effect (logicL_effect erd (s.reg32 erd ^^^ imm)) rfl,
    fun ers erd => runs_of_effect (logicL_effect erd (s.reg32 erd ^^^ s.reg32 ers)) rfl,
    fun rd => runs_of_effect (logicB_effect rd (~~~s.reg8 rd)) rfl,
    fun rd => runs_of_effect (logicW_effect rd (~~~s.reg16 rd)) rfl,
    fun erd => runs_of_effect (logicL_effect erd (~~~s.reg32 erd)) rfl⟩

end Sys2Proof.Machine

/-! O38 and O39: the shifts and rotates by one bit. Every one but SHAR moves the bits as ROTXL or ROTXR does, with a
bit of its own in the place of C, so what these two do to the operand as a number is shown once. -/

namespace Sys2Proof.Machine

variable {w : Nat}

/-! ### The outermost bits as numbers -/

theorem toNat_lsb (d : BitVec w) : (d.getLsbD 0).toNat = d.toNat % 2 := by
  rw [BitVec.getLsbD, Nat.toNat_testBit, pow_zero, Nat.div_one]

theorem toNat_msb (hw : 0 < w) (d : BitVec w) : d.msb.toNat = d.toNat / 2 ^ (w - 1) := by
  have small : d.toNat < 2 ^ (w - 1) * 2 := by
    rw [Nat.mul_comm, ← two_pow_split hw]
    exact d.isLt
  rw [BitVec.msb_eq_getLsbD_last, BitVec.getLsbD, Nat.toNat_testBit, Nat.mod_eq_of_lt (Nat.div_lt_of_lt_mul small)]

/-- The bit that leaves at the top does not depend on the bit that enters below. -/
theorem toNat_msb_eq_div (hw : 0 < w) (d : BitVec w) (c : Bool) :
    d.msb.toNat = (2 * d.toNat + c.toNat) / 2 ^ w := by
  have half : (2 * d.toNat + c.toNat) / 2 = d.toNat := by
    have := c.toNat_lt
    omega
  rw [toNat_msb hw, two_pow_split hw, ← Nat.div_div_eq_div_mul, half]

/-- The weight of the sign bit is even, so the lowest bit says whether the signed number is odd. -/
theorem toInt_emod_two (hw : 0 < w) (d : BitVec w) : d.toInt % 2 = (d.getLsbD 0).toNat := by
  have weight := two_pow_split hw
  rw [toNat_lsb, BitVec.toInt_eq_toNat_cond]
  split <;> omega

/-! ### What ROTXL and ROTXR do -/

/-- To the left with `c` into bit 0: the top bit and the result are the double of the operand and `c`. -/
theorem toNat_rotxl (hw : 0 < w) (d : BitVec w) (c : Bool) :
    (rotxl d c).result.toNat + 2 ^ w * d.msb.toNat = 2 * d.toNat + c.toNat := by
  have shifted : (rotxl d c).result = d.shiftConcat c := by
    ext i hi
    by_cases h0 : i = 0 <;> cases c <;> simp [rotxl, BitVec.getElem_shiftConcat, h0]
  rw [shifted, BitVec.toNat_shiftConcat, Nat.shiftLeft_eq, pow_one, Nat.mul_comm d.toNat, toNat_msb_eq_div hw d c]
  exact Nat.mod_add_div _ _

/-- A bit in the top place. -/
theorem toNat_topBit (hw : 0 < w) (c : Bool) :
    (BitVec.ofNat w c.toNat <<< (w - 1)).toNat = c.toNat <<< (w - 1) := by
  have weight := two_pow_split hw
  have positive : 0 < 2 ^ (w - 1) := Nat.two_pow_pos _
  cases c with
  | false => simp
  | true =>
    rw [Bool.toNat_true, BitVec.toNat_shiftLeft, BitVec.toNat_ofNat, Nat.mod_eq_of_lt (Nat.one_lt_two_pow hw.ne'),
      Nat.shiftLeft_eq, Nat.mod_eq_of_lt (by omega)]

/-- To the right with `c` into the top bit: the result and the lowest bit are the operand with `c` on top. -/
theorem toNat_rotxr (hw : 0 < w) (d : BitVec w) (c : Bool) :
    2 * (rotxr d c).result.toNat + (d.getLsbD 0).toNat = d.toNat + 2 ^ w * c.toNat := by
  have weight := two_pow_split hw
  have half : d.toNat / 2 < 2 ^ (w - 1) := by
    have := d.isLt
    omega
  have shifted : (rotxr d c).result.toNat = c.toNat * 2 ^ (w - 1) + d.toNat / 2 := by
    rw [rotxr, BitVec.toNat_or, toNat_topBit hw, BitVec.toNat_ushiftRight, Nat.or_comm, Nat.shiftRight_one,
      ← Nat.shiftLeft_add_eq_or_of_lt half, Nat.shiftLeft_eq]
  have operand := Nat.div_add_mod d.toNat 2
  rw [shifted, toNat_lsb, weight]
  linarith

/-! ### The other operations by these two -/

/-- SHAL and SHLL shift a 0 in. -/
theorem shiftLeft_eq_rotxl (d : BitVec w) : d <<< 1 = (rotxl d false).result := by simp [rotxl]

/-- SHLR shifts a 0 in. -/
theorem shiftRight_eq_rotxr (d : BitVec w) : d >>> 1 = (rotxr d false).result := by simp [rotxr]

/-- ROTL shifts in the bit it shifts out. -/
theorem rotl_eq_rotxl (hw : 1 < w) (d : BitVec w) : rotl d = rotxl d d.msb := by
  have returned : d >>> (w - 1) = BitVec.ofNat w d.msb.toNat := by
    rw [toNat_msb (by omega), ← Nat.shiftRight_eq_div_pow, ← BitVec.toNat_ushiftRight, BitVec.ofNat_toNat,
      BitVec.setWidth_eq]
  rw [rotl, rotxl, BitVec.rotateLeft_def, Nat.mod_eq_of_lt hw, returned]

/-- ROTR shifts in the bit it shifts out. -/
theorem rotr_eq_rotxr (hw : 1 < w) (d : BitVec w) : rotr d = rotxr d (d.getLsbD 0) := by
  have returned : d <<< (w - 1) = BitVec.ofNat w (d.getLsbD 0).toNat <<< (w - 1) := by
    apply BitVec.eq_of_toNat_eq
    rw [toNat_topBit (by omega), toNat_lsb, BitVec.toNat_shiftLeft, Nat.shiftLeft_eq, Nat.shiftLeft_eq,
      two_pow_split (by omega : 0 < w), Nat.mul_mod_mul_right]
  rw [rotr, rotxr, BitVec.rotateRight_def, Nat.mod_eq_of_lt hw, returned]

/-! ### The result, the carry and the overflow of each operation -/

/-- V of SHAL is the overflow of the operand added to itself. -/
theorem shal_overflow (hw : 1 < w) (d : BitVec w) :
    (shal d).overflow = decide (2 * d.toInt ≠ (shal d).result.toInt) := by
  have double : d <<< 1 = sum d d false := by
    rw [sum_false]
    apply BitVec.eq_of_toNat_eq
    rw [BitVec.toNat_shiftLeft, BitVec.toNat_add, Nat.shiftLeft_eq, pow_one, mul_two]
  have sign : (sum d d false).msb = d.getLsbD (w - 2) := by
    rw [← double, BitVec.msb_shiftLeft, BitVec.getMsbD_eq_getLsbD]
    simp [hw, Nat.sub_sub]
  have overflows : (shal d).overflow = addOverflow d d false := by
    simp [shal, addOverflow, sign, bne_comm]
  rw [overflows, addOverflow_eq (by omega), shal, double, Bool.toNat_false, Nat.cast_zero, add_zero, two_mul]

theorem shal_spec (hw : 1 < w) (d : BitVec w) :
    (shal d).result.toNat + 2 ^ w * (shal d).carry.toNat = 2 * d.toNat ∧
      (shal d).overflow = decide (2 * d.toInt ≠ (shal d).result.toInt) := by
  refine ⟨?_, shal_overflow hw d⟩
  rw [shal, shiftLeft_eq_rotxl]
  exact toNat_rotxl (by omega) d false

theorem shar_spec (hw : 0 < w) (d : BitVec w) :
    2 * (shar d).result.toInt + (shar d).carry.toNat = d.toInt ∧ (shar d).overflow = false := by
  refine ⟨?_, rfl⟩
  rw [shar, BitVec.toInt_sshiftRight, Int.shiftRight_eq_div_pow, ← toInt_emod_two hw]
  exact Int.mul_ediv_add_emod _ _

theorem shll_spec (hw : 0 < w) (d : BitVec w) :
    (shll d).result.toNat + 2 ^ w * (shll d).carry.toNat = 2 * d.toNat ∧ (shll d).overflow = false := by
  refine ⟨?_, rfl⟩
  rw [shll, shiftLeft_eq_rotxl]
  exact toNat_rotxl hw d false

theorem shlr_spec (hw : 0 < w) (d : BitVec w) :
    2 * (shlr d).result.toNat + (shlr d).carry.toNat = d.toNat ∧ (shlr d).overflow = false := by
  refine ⟨?_, rfl⟩
  rw [shlr, shiftRight_eq_rotxr]
  exact toNat_rotxr hw d false

theorem rotl_spec (hw : 1 < w) (d : BitVec w) :
    (rotl d).result.toNat + 2 ^ w * (rotl d).carry.toNat = 2 * d.toNat + (rotl d).carry.toNat ∧
      (rotl d).overflow = false := by
  rw [rotl_eq_rotxl hw]
  exact ⟨toNat_rotxl (by omega) d d.msb, rfl⟩

theorem rotr_spec (hw : 1 < w) (d : BitVec w) :
    2 * (rotr d).result.toNat + (rotr d).carry.toNat = d.toNat + 2 ^ w * (rotr d).carry.toNat ∧
      (rotr d).overflow = false := by
  rw [rotr_eq_rotxr hw]
  exact ⟨toNat_rotxr (by omega) d (d.getLsbD 0), rfl⟩

theorem rotxl_spec (hw : 0 < w) (d : BitVec w) (c : Bool) :
    (rotxl d c).result.toNat + 2 ^ w * (rotxl d c).carry.toNat = 2 * d.toNat + c.toNat ∧
      (rotxl d c).overflow = false :=
  ⟨toNat_rotxl hw d c, rfl⟩

theorem rotxr_spec (hw : 0 < w) (d : BitVec w) (c : Bool) :
    2 * (rotxr d c).result.toNat + (rotxr d c).carry.toNat = d.toNat + 2 ^ w * c.toNat ∧
      (rotxr d c).overflow = false :=
  ⟨toNat_rotxr hw d c, rfl⟩

/-! ### The instructions -/

/-- An instruction whose meaning is the shared shift by `x` does what holds of the three parts of `x`. -/
theorem runs_of_shifted {α : Type} {Wrote : α → BitVec w → State → State → Prop} {rd : α} {i : Instr} {s : State}
    {x : Shifted w} {p : BitVec w → Bool → Bool → Prop}
    (law : Runs i s (Shifts Wrote rd fun r c v => r = x.result ∧ c = x.carry ∧ v = x.overflow))
    (spec : p x.result x.carry x.overflow) : Runs i s (Shifts Wrote rd p) := by
  obtain ⟨t, next, r, ⟨result, carry, overflow⟩, gives⟩ := law
  refine ⟨t, next, r, ?_, gives⟩
  rwa [result, carry, overflow]

/-- Settles O38: in each size the instruction is the shared shift by the operation on Rd. -/
theorem shiftResults : Obligations.ShiftResults := by
  intro s
  exact ⟨fun rd => runs_of_shifted (shiftB_effect rd (shal (s.reg8 rd)) s) (shal_spec (by decide) _),
    fun rd => runs_of_shifted (shiftW_effect rd (shal (s.reg16 rd)) s) (shal_spec (by decide) _),
    fun erd => runs_of_shifted (shiftL_effect erd (shal (s.reg32 erd)) s) (shal_spec (by decide) _),
    fun rd => runs_of_shifted (shiftB_effect rd (shar (s.reg8 rd)) s) (shar_spec (by decide) _),
    fun rd => runs_of_shifted (shiftW_effect rd (shar (s.reg16 rd)) s) (shar_spec (by decide) _),
    fun erd => runs_of_shifted (shiftL_effect erd (shar (s.reg32 erd)) s) (shar_spec (by decide) _),
    fun rd => runs_of_shifted (shiftB_effect rd (shll (s.reg8 rd)) s) (shll_spec (by decide) _),
    fun rd => runs_of_shifted (shiftW_effect rd (shll (s.reg16 rd)) s) (shll_spec (by decide) _),
    fun erd => runs_of_shifted (shiftL_effect erd (shll (s.reg32 erd)) s) (shll_spec (by decide) _),
    fun rd => runs_of_shifted (shiftB_effect rd (shlr (s.reg8 rd)) s) (shlr_spec (by decide) _),
    fun rd => runs_of_shifted (shiftW_effect rd (shlr (s.reg16 rd)) s) (shlr_spec (by decide) _),
    fun erd => runs_of_shifted (shiftL_effect erd (shlr (s.reg32 erd)) s) (shlr_spec (by decide) _)⟩

/-- Settles O39: ROTXL and ROTXR take C as it is before the instruction. -/
theorem rotateResults : Obligations.RotateResults := by
  intro s
  exact ⟨fun rd => runs_of_shifted (shiftB_effect rd (rotl (s.reg8 rd)) s) (rotl_spec (by decide) _),
    fun rd => runs_of_shifted (shiftW_effect rd (rotl (s.reg16 rd)) s) (rotl_spec (by decide) _),
    fun erd => runs_of_shifted (shiftL_effect erd (rotl (s.reg32 erd)) s) (rotl_spec (by decide) _),
    fun rd => runs_of_shifted (shiftB_effect rd (rotr (s.reg8 rd)) s) (rotr_spec (by decide) _),
    fun rd => runs_of_shifted (shiftW_effect rd (rotr (s.reg16 rd)) s) (rotr_spec (by decide) _),
    fun erd => runs_of_shifted (shiftL_effect erd (rotr (s.reg32 erd)) s) (rotr_spec (by decide) _),
    fun rd => runs_of_shifted (shiftB_effect rd (rotxl (s.reg8 rd) _) s) (rotxl_spec (by decide) _ (s.flag .c)),
    fun rd => runs_of_shifted (shiftW_effect rd (rotxl (s.reg16 rd) _) s) (rotxl_spec (by decide) _ (s.flag .c)),
    fun erd => runs_of_shifted (shiftL_effect erd (rotxl (s.reg32 erd) _) s) (rotxl_spec (by decide) _ (s.flag .c)),
    fun rd => runs_of_shifted (shiftB_effect rd (rotxr (s.reg8 rd) _) s) (rotxr_spec (by decide) _ (s.flag .c)),
    fun rd => runs_of_shifted (shiftW_effect rd (rotxr (s.reg16 rd) _) s) (rotxr_spec (by decide) _ (s.flag .c)),
    fun erd => runs_of_shifted (shiftL_effect erd (rotxr (s.reg32 erd) _) s) (rotxr_spec (by decide) _ (s.flag .c))⟩

end Sys2Proof.Machine

/-! O40 to O42: the bit instructions. The model replaces one bit of a byte; the statements set, clear, invert or store
it by a mask. Once the two are shown equal, each instruction is one of the four shared operations (Sys2Proof/Laws/). -/

namespace Sys2Proof.Machine

/-! ### The designated bit -/

/-- A register names a bit by its value modulo 8, which is its low three bits (R421). -/
theorem bitIn_eq_bitNumber (s : State) (rn : R8) : bitIn s rn = (s.bitNumber rn).toNat :=
  (BitVec.toNat_setWidth 3 (s.reg8 rn)).symm

/-- The byte with bit `n` replaced is the one that has the new value there and the old ones elsewhere. -/
theorem eq_withBit {n : BitVec 3} {x : Bool} {b c : Byte}
    (bits : ∀ k < 8, c.getLsbD k = if k = n.toNat then x else b.getLsbD k) : c = withBit n x b :=
  BitVec.eq_of_getLsbD_eq fun k hk => by rw [bits k hk, withBit, putBit_getLsbD b _ k x hk]

theorem bitSet_eq_withBit (n : BitVec 3) : bitSet n.toNat = withBit n true := rfl

theorem bitCleared_eq_withBit (n : BitVec 3) : bitCleared n.toNat = withBit n false := rfl

/-- The mask that inverts changes a bit exactly at its place. -/
theorem bitInverted_eq_withBit (n : BitVec 3) : bitInverted n.toNat = fun b => withBit n (!bitOf n b) b := by
  funext b
  refine eq_withBit fun k hk => ?_
  rw [bitInverted, ← BitVec.twoPow_eq, BitVec.getLsbD_xor, BitVec.getLsbD_twoPow]
  by_cases there : k = n.toNat
  · simp [there, bitOf, n.isLt]
  · simp [there, Ne.symm there]

/-- Storing a 1 sets the bit, also where it is cleared first; storing a 0 clears it. -/
theorem bitStored_eq_withBit (x : Bool) (n : BitVec 3) : bitStored x n.toNat = withBit n x := by
  funext b
  cases x with
  | false => simp [bitStored, ← bitCleared_eq_withBit, bitCleared]
  | true =>
    have stored : bitStored true n.toNat b = bitSet n.toNat (bitCleared n.toNat b) := rfl
    rw [stored, bitSet_eq_withBit, bitCleared_eq_withBit]
    refine eq_withBit fun k hk => ?_
    rw [withBit, withBit, putBit_getLsbD _ _ k true hk, putBit_getLsbD _ _ k false hk]
    split <;> rfl

/-! ### The instructions -/

/-- Settles O40: Rn is read before Rd is written, so they may be one register. -/
theorem bitWritesRegister : Obligations.BitWritesRegister := by
  intro s
  simp only [bitIn_eq_bitNumber, bitSet_eq_withBit, bitCleared_eq_withBit, bitInverted_eq_withBit,
    bitStored_eq_withBit]
  exact ⟨fun n rd => changeReg_effect rd (withBit n true) s,
    fun rn rd => changeReg_effect rd (withBit (s.bitNumber rn) true) s,
    fun n rd => changeReg_effect rd (withBit n false) s,
    fun rn rd => changeReg_effect rd (withBit (s.bitNumber rn) false) s,
    fun n rd => changeReg_effect rd (fun b => withBit n (!bitOf n b) b) s,
    fun rn rd => changeReg_effect rd (fun b => withBit (s.bitNumber rn) (!bitOf (s.bitNumber rn) b) b) s,
    fun n rd => changeReg_effect rd (withBit n (s.flag .c)) s,
    fun n rd => changeReg_effect rd (withBit n (!s.flag .c)) s⟩

/-- Settles O41: BSET, BCLR and BNOT with the bit as an immediate and in a register, then BST and BIST. -/
theorem bitWritesMemory : Obligations.BitWritesMemory := by
  intro s
  simp only [bitIn_eq_bitNumber, bitSet_eq_withBit, bitCleared_eq_withBit, bitInverted_eq_withBit,
    bitStored_eq_withBit]
  exact ⟨fun n erd => changeMem_effect (.ind erd) (withBit n true) s,
    fun rn erd => changeMem_effect (.ind erd) (withBit (s.bitNumber rn) true) s,
    fun n aa => changeMem_effect (.abs8 aa) (withBit n true) s,
    fun rn aa => changeMem_effect (.abs8 aa) (withBit (s.bitNumber rn) true) s,
    fun n erd => changeMem_effect (.ind erd) (withBit n false) s,
    fun rn erd => changeMem_effect (.ind erd) (withBit (s.bitNumber rn) false) s,
    fun n aa => changeMem_effect (.abs8 aa) (withBit n false) s,
    fun rn aa => changeMem_effect (.abs8 aa) (withBit (s.bitNumber rn) false) s,
    fun n erd => changeMem_effect (.ind erd) (fun b => withBit n (!bitOf n b) b) s,
    fun rn erd => changeMem_effect (.ind erd) (fun b => withBit (s.bitNumber rn) (!bitOf (s.bitNumber rn) b) b) s,
    fun n aa => changeMem_effect (.abs8 aa) (fun b => withBit n (!bitOf n b) b) s,
    fun rn aa => changeMem_effect (.abs8 aa) (fun b => withBit (s.bitNumber rn) (!bitOf (s.bitNumber rn) b) b) s,
    fun n erd => changeMem_effect (.ind erd) (withBit n (s.flag .c)) s,
    fun n aa => changeMem_effect (.abs8 aa) (withBit n (s.flag .c)) s,
    fun n erd => changeMem_effect (.ind erd) (withBit n (!s.flag .c)) s,
    fun n aa => changeMem_effect (.abs8 aa) (withBit n (!s.flag .c)) s⟩

/-- Settles O42: BTST with the bit as an immediate and in a register, then the instructions on C, each on a
register, @ERd and @aa:8. -/
theorem bitTests : Obligations.BitTests := by
  intro s
  simp only [bitIn_eq_bitNumber]
  exact ⟨fun n rd => testReg_effect rd .z (fun b => !bitOf n b) s,
    fun n erd => testMem_effect (.ind erd) .z (fun b => !bitOf n b) s,
    fun n aa => testMem_effect (.abs8 aa) .z (fun b => !bitOf n b) s,
    fun rn rd => testReg_effect rd .z (fun b => !bitOf (s.bitNumber rn) b) s,
    fun rn erd => testMem_effect (.ind erd) .z (fun b => !bitOf (s.bitNumber rn) b) s,
    fun rn aa => testMem_effect (.abs8 aa) .z (fun b => !bitOf (s.bitNumber rn) b) s,
    fun n rd => testReg_effect rd .c (fun b => s.flag .c && bitOf n b) s,
    fun n erd => testMem_effect (.ind erd) .c (fun b => s.flag .c && bitOf n b) s,
    fun n aa => testMem_effect (.abs8 aa) .c (fun b => s.flag .c && bitOf n b) s,
    fun n rd => testReg_effect rd .c (fun b => s.flag .c && !bitOf n b) s,
    fun n erd => testMem_effect (.ind erd) .c (fun b => s.flag .c && !bitOf n b) s,
    fun n aa => testMem_effect (.abs8 aa) .c (fun b => s.flag .c && !bitOf n b) s,
    fun n rd => testReg_effect rd .c (fun b => s.flag .c || bitOf n b) s,
    fun n erd => testMem_effect (.ind erd) .c (fun b => s.flag .c || bitOf n b) s,
    fun n aa => testMem_effect (.abs8 aa) .c (fun b => s.flag .c || bitOf n b) s,
    fun n rd => testReg_effect rd .c (fun b => s.flag .c || !bitOf n b) s,
    fun n erd => testMem_effect (.ind erd) .c (fun b => s.flag .c || !bitOf n b) s,
    fun n aa => testMem_effect (.abs8 aa) .c (fun b => s.flag .c || !bitOf n b) s,
    fun n rd => testReg_effect rd .c (fun b => s.flag .c != bitOf n b) s,
    fun n erd => testMem_effect (.ind erd) .c (fun b => s.flag .c != bitOf n b) s,
    fun n aa => testMem_effect (.abs8 aa) .c (fun b => s.flag .c != bitOf n b) s,
    fun n rd => testReg_effect rd .c (fun b => s.flag .c != !bitOf n b) s,
    fun n erd => testMem_effect (.ind erd) .c (fun b => s.flag .c != !bitOf n b) s,
    fun n aa => testMem_effect (.abs8 aa) .c (fun b => s.flag .c != !bitOf n b) s,
    fun n rd => testReg_effect rd .c (bitOf n) s,
    fun n erd => testMem_effect (.ind erd) .c (bitOf n) s,
    fun n aa => testMem_effect (.abs8 aa) .c (bitOf n) s,
    fun n rd => testReg_effect rd .c (fun b => !bitOf n b) s,
    fun n erd => testMem_effect (.ind erd) .c (fun b => !bitOf n b) s,
    fun n aa => testMem_effect (.abs8 aa) .c (fun b => !bitOf n b) s⟩

end Sys2Proof.Machine

/-! O44 and O46: what the branch conditions say after a comparison, and that RTS undoes a call. -/

namespace Sys2Proof.Machine

variable {w : Nat} {s t : State}

/-! ### The conditions after a comparison -/

/-- The sign of a difference is wrong exactly where the difference overflows, so their XOR is the signed
order. -/
theorem xor_msb_overflow (x y : BitVec w) :
    xor (x - y).msb (decide (x.toInt - y.toInt ≠ (x - y).toInt)) = decide (x.toInt < y.toInt) := by
  have wrapped : (x - y).toInt = (x.toInt - y.toInt).bmod (2 ^ w) := BitVec.toInt_sub
  have xlow := x.le_two_mul_toInt
  have xhigh := x.two_mul_toInt_lt
  have ylow := y.le_two_mul_toInt
  have yhigh := y.two_mul_toInt_lt
  have cast : ((2 ^ w : Nat) : Int) = 2 ^ w := by simp
  rw [← cast] at xlow xhigh ylow yhigh
  have sign := Int.bmod_neg_iff (m := 2 ^ w) (x := x.toInt - y.toInt) (by omega) (by omega)
  rw [← wrapped] at sign
  rw [BitVec.msb_eq_toInt]
  by_cases fits : (x - y).toInt = x.toInt - y.toInt
  · simp [fits]
  · have outside : ¬(-((2 ^ w : Nat) : Int) ≤ (x.toInt - y.toInt) * 2 ∧
        (x.toInt - y.toInt) * 2 < ((2 ^ w : Nat) : Int)) := fun ⟨low, high⟩ =>
      fits (wrapped.trans (Int.bmod_eq_of_le_mul_two low high))
    have overflows : x.toInt - y.toInt ≠ (x - y).toInt := Ne.symm fits
    rw [decide_eq_true overflows, Bool.xor_true, ← decide_not, decide_eq_decide, sign]
    omega

/-- What a comparison of X with Y leaves for the conditions to read: C is the unsigned order, Z equality, and
N and V together the signed order (R335 to R337). -/
structure Ordered (x y : BitVec w) (t : State) : Prop where
  below : t.flag .c = decide (x.toNat < y.toNat)
  equal : t.flag .z = decide (x = y)
  less : xor (t.flag .n) (t.flag .v) = decide (x.toInt < y.toInt)

theorem Compares.ordered {x y : BitVec w} {n : Addr} (h : Compares x y s n t) : Ordered x y t := by
  obtain ⟨-, ⟨-, negative, overflow, carry, -⟩, zero, -⟩ := h
  simp only [Bool.toNat_false, BitVec.sub_zero, Nat.add_zero, Int.ofNat_zero, Int.sub_zero]
    at negative overflow carry
  refine ⟨carry, ?_, ?_⟩
  · rw [zero, isZero, decide_eq_decide, BitVec.sub_eq_iff_eq_add, BitVec.ofNat_eq_ofNat, BitVec.zero_add]
  · rw [negative, overflow, xor_msb_overflow]

namespace Ordered

variable {x y : BitVec w}

theorem ls (h : Ordered x y t) : Cond.ls.holds t = decide (x.toNat ≤ y.toNat) := by
  rw [Cond.holds, h.below, h.equal, ← Bool.decide_or, decide_eq_decide, ← BitVec.toNat_inj, Nat.le_iff_lt_or_eq]

theorem hi (h : Ordered x y t) : Cond.hi.holds t = decide (y.toNat < x.toNat) := by
  have complement : Cond.hi.holds t = !Cond.ls.holds t := rfl
  rw [complement, h.ls, ← decide_not, decide_eq_decide, Nat.not_le]

theorem cc (h : Ordered x y t) : Cond.cc.holds t = decide (y.toNat ≤ x.toNat) := by
  rw [Cond.holds, h.below, ← decide_not, decide_eq_decide, Nat.not_lt]

theorem ne (h : Ordered x y t) : Cond.ne.holds t = decide (x ≠ y) := by
  rw [Cond.holds, h.equal, ← decide_not]

theorem ge (h : Ordered x y t) : Cond.ge.holds t = decide (y.toInt ≤ x.toInt) := by
  rw [Cond.holds_ge, h.less, ← decide_not, decide_eq_decide, Int.not_lt]

theorem le (h : Ordered x y t) : Cond.le.holds t = decide (x.toInt ≤ y.toInt) := by
  have either : Cond.le.holds t = (t.flag .z || xor (t.flag .n) (t.flag .v)) := rfl
  rw [either, h.less, h.equal, ← Bool.decide_or, decide_eq_decide, ← BitVec.toInt_inj, or_comm, Int.le_iff_lt_or_eq]

theorem gt (h : Ordered x y t) : Cond.gt.holds t = decide (y.toInt < x.toInt) := by
  have complement : Cond.gt.holds t = !Cond.le.holds t := Cond.holds_gt t
  rw [complement, h.le, ← decide_not, decide_eq_decide, Int.not_le]

end Ordered

/-- Settles O44: each CMP leaves the order of its operands in the flags, where the conditions read it. -/
theorem conditionsAfterCompare : Obligations.ConditionsAfterCompare := by
  unfold Obligations.ConditionsAfterCompare
  intro after s
  have reads {w : Nat} {x y : BitVec w} {i : Instr} (compares : Runs i s (Compares x y)) :
      Runs i s (after w x y) := by
    obtain ⟨t, next, effect⟩ := compares
    have h := effect.ordered
    exact ⟨t, next, h.hi, h.ls, h.cc, h.below, h.ne, h.equal, h.ge, h.less, h.gt, h.le⟩
  obtain ⟨bImm, bReg, wImm, wReg, lImm, lReg⟩ := compareSetsFlags s
  exact ⟨fun imm rd => reads (bImm imm rd), fun rs rd => reads (bReg rs rd), fun imm rd => reads (wImm imm rd),
    fun rs rd => reads (wReg rs rd), fun imm erd => reads (lImm imm erd), fun ers erd => reads (lReg ers erd)⟩

/-! ### The frame of a call, read back -/

theorem State.seePointer_allMemory (all : s.AllMemory) (a : Addr) : s.seePointer a = s := by
  unfold State.seePointer State.seeL
  rw [s.seeW_allMemory all, s.seeW_allMemory all]
  split <;> rfl

/-- The byte at the odd address is the lower byte of the word, whatever the other one is (R82). -/
theorem StoredW.loadW_lower {a : Addr} {high : Option Byte} {v : Byte} (all : s.AllMemory) (par : t.par = s.par)
    (h : StoredW (s.wordAddr a) high (some v) s t) : (t.loadW a).setWidth 8 = v := by
  rw [StoredW, State.kindAt_allMemory all] at h
  obtain ⟨-, low, -, -⟩ := h
  rw [State.loadW_allMemory (all.congr par), State.wordAddr_congr par, State.red_congr par, low _ rfl]
  exact BitVec.setWidth_append_eq_right

theorem upper_extract (n : Addr) : upper (n.extractLsb' 0 16) = some (n.extractLsb' 8 8) :=
  congrArg some (BitVec.extractLsb'_extractLsb'_of_le (by decide))

theorem lower_extract (n : Addr) : lower (n.extractLsb' 0 16) = some (n.extractLsb' 0 8) :=
  congrArg some (BitVec.extractLsb'_extractLsb'_of_le (by decide))

/-- In normal mode PC keeps 16 bits of an address (R51). -/
theorem State.pcForm_extract (normal : s.par.mode = .normal) (n : Addr) :
    s.pcForm ((n.extractLsb' 0 16).setWidth 24) = s.pcForm n := by
  have mask (a : Addr) : s.red a = a &&& 0x00FFFF#24 := by rw [State.red, normal]
  have low (k : Nat) : k &&& 65535 = k % 65536 := Nat.and_two_pow_sub_one_eq_mod k 16
  have reduced : s.red ((n.extractLsb' 0 16).setWidth 24) = s.red n := by
    rw [mask, mask]
    apply BitVec.eq_of_toNat_eq
    simp only [BitVec.toNat_and, BitVec.toNat_setWidth, BitVec.extractLsb'_toNat, Nat.shiftRight_zero,
      BitVec.toNat_ofNat, low]
    omega
  exact congrArg even reduced

/-- An address is its upper byte and its lower word, whatever stands above it in a longword. -/
theorem setWidth_append_extract {x : Word} {n : Addr} (h : x.setWidth 8 = n.extractLsb' 16 8) :
    (x ++ n.extractLsb' 0 16 : Long).setWidth 24 = n :=
  calc (x ++ n.extractLsb' 0 16 : Long).setWidth (8 + 16)
      = x.setWidth 8 ++ n.extractLsb' 0 16 := by rw [BitVec.setWidth_append_of_eq rfl, BitVec.setWidth_eq]
    _ = n.extractLsb' 16 8 ++ n.extractLsb' 0 16 := by rw [h]
    _ = n.extractLsb' 0 (8 + 16) := BitVec.extractLsb'_append_extractLsb'_eq_extractLsb' (Nat.zero_add 16).symm
    _ = n := BitVec.extractLsb'_eq_self

/-- The advanced-mode frame of a call, read as a longword (R477). -/
theorem StoredWW.setWidth_loadL {a n : Addr} (all : s.AllMemory) (par : t.par = s.par)
    (h : StoredWW (s.wordAddr a) none (some (n.extractLsb' 16 8)) (s.wordAddr (s.wordAddr a + 2#24))
      (some (n.extractLsb' 8 8)) (some (n.extractLsb' 0 8)) s t) : (t.loadL a).setWidth 24 = n := by
  obtain ⟨u, upar, first, second⟩ := h
  have all' : u.AllMemory := all.congr upar
  have tpar : t.par = u.par := par.trans upar.symm
  have apart : u.wordAddr (s.wordAddr a + 2#24) ≠ u.wordAddr a := by
    rw [State.wordAddr_congr upar, State.wordAddr_congr upar]
    exact s.wordAddr_add_two_ne a
  rw [← upper_extract, ← lower_extract, ← State.wordAddr_congr upar] at second
  have upperByte : (t.loadW a).setWidth 8 = n.extractLsb' 16 8 := by
    rw [second.loadW_ne all' tpar apart]
    exact first.loadW_lower all upar
  rw [State.loadL, State.wordAddr_congr par, second.loadW_same all' tpar]
  exact setWidth_append_extract upperByte

/-- A call lowers SP by the size of a stored code address and writes no other register (R477). -/
theorem Calls.wrote_sp {target n : Addr} {u : State} (h : Calls target u s n t) :
    Wrote32 .er7 (s.reg32 .er7 - BitVec.ofNat 32 s.pointerSize) s t := by
  obtain ⟨frame, -⟩ := h
  rw [State.pointerSize]
  cases mode : s.par.mode <;> rw [mode] at frame <;> exact frame.1

theorem Calls.par {target n : Addr} {u : State} (h : Calls target u s n t) : t.par = s.par := by
  obtain ⟨-, -, -, -, -, -, par, -⟩ := h
  exact par

/-- The address a call stores is read back from the top of the stack (R477, R480). -/
theorem Calls.pcForm_loadPointer {target n : Addr} (all : s.AllMemory) (h : Calls target s s n t) :
    t.pcForm (t.loadPointer (low24 (t.reg32 .er7))) = s.pcForm n := by
  have par := h.par
  obtain ⟨frame, -⟩ := h
  rw [State.pcForm_congr par, State.loadPointer, par]
  cases mode : s.par.mode with
  | normal =>
    rw [mode] at frame
    obtain ⟨⟨sp, -⟩, -, stored⟩ := frame
    rw [← upper_extract, ← lower_extract] at stored
    dsimp only
    rw [sp, stored.loadW_same all par, State.pcForm_extract mode]
  | advanced =>
    rw [mode] at frame
    obtain ⟨⟨sp, -⟩, -, stored⟩ := frame
    dsimp only
    rw [sp, stored.setWidth_loadL all par]

/-- One register written and then given back what it held: every register is as before. -/
theorem Wrote32.sameRegs {rd : ER} {v : Long} {u : State} (h : Wrote32 rd v s t) (k : Wrote32 rd (s.reg32 rd) t u) :
    SameRegs s u := by
  intro n
  by_cases same : n = rd
  · rw [same, k.1]
  · rw [k.2 n same, h.2 n same]

/-- RTS pops what the stack pointer was lowered by. -/
theorem ReturnsFromSubroutine.wrote_sp {n : Addr} {u : State} (h : ReturnsFromSubroutine s n u) :
    Wrote32 .er7 (s.reg32 .er7 + BitVec.ofNat 32 s.pointerSize) s u := by
  obtain ⟨wrote, -⟩ := h
  rw [State.pointerSize]
  cases mode : s.par.mode <;> rw [mode] at wrote <;> exact wrote

/-- RTS after a call in ordinary memory pops the frame that the call pushed. -/
theorem rts_of_calls {i : Instr} {target : Addr} (all : s.AllMemory) (call : Runs i s (Calls target s)) :
    ∃ t u, exec i s = .next t ∧ exec .rts t = .next u ∧ u.pc = s.nextPc i ∧ SameRegs s u ∧ u.ccr = s.ccr := by
  obtain ⟨t, called, calls⟩ := call
  obtain ⟨u, returned, returns⟩ := rts_effect (t.nextPc .rts) t
  have pushed := calls.wrote_sp
  have popped := returns.wrote_sp
  rw [State.pointerSize_congr calls.par, pushed.1, BitVec.sub_add_cancel] at popped
  have stored := calls.pcForm_loadPointer all
  obtain ⟨-, -, ccr, -⟩ := calls
  obtain ⟨-, pc, ccr', -⟩ := returns
  have back : u.pc = s.nextPc i :=
    calc u.pc
        = t.pcForm (t.loadPointer (low24 (t.reg32 .er7))) := pc
      _ = s.pcForm (s.nextPc i) := stored
      _ = s.nextPc i := s.pcForm_pcForm _
  exact ⟨t, u, called, returned, back, pushed.sameRegs popped, ccr'.trans ccr⟩

/-- Settles O46: in ordinary memory the reads before the push leave nothing behind, so each form is a plain call. -/
theorem callReturns : Obligations.CallReturns := by
  intro s i all form
  obtain ⟨-, -, -, bsrD8, bsrD16, jsrInd, jsrAbs, jsrMem, -⟩ := jumpsAndCalls s
  simp only [State.readTarget_allMemory all, State.seePointer_allMemory all] at bsrD8 bsrD16 jsrInd jsrAbs jsrMem
  obtain ⟨d, rfl⟩ | ⟨d, rfl⟩ | ⟨n, rfl⟩ | ⟨a, rfl⟩ | ⟨a, rfl⟩ := form
  · exact rts_of_calls all (bsrD8 d)
  · exact rts_of_calls all (bsrD16 d)
  · exact rts_of_calls all (jsrInd n)
  · exact rts_of_calls all (jsrAbs a)
  · exact rts_of_calls all (jsrMem a)

end Sys2Proof.Machine

/-! O13, O47 to O49 and O51 to O53: that every instruction completes, and the system-control instructions but SLEEP.
TRAPA and RTE are the shared entry of an exception and the return from one; that RTE undoes an entry is that the frame
is read back as it was written. -/

namespace Sys2Proof.Machine

variable {s t u : State}

/-! ### Every instruction completes -/

/-- Besides MOVFPE and MOVTPE one meaning asks something first, which is whether an NMI stops the transfer. -/
theorem execEepmovW_completes (s : State) : ∃ t, execEepmovW s = .next t := by
  unfold execEepmovW
  dsimp only
  split <;> exact ⟨_, rfl⟩

/-- Settles O13: the meanings that ask nothing first are a next state as they stand. -/
theorem everyInstructionCompletes : Obligations.EveryInstructionCompletes := by
  refine ⟨fun i s runnable => ?_, fun aa r s noClock => ?_⟩
  · cases i with
    | movfpe aa rd =>
      have clock : s.par.hasEclock = true := runnable.resolve_left fun other => (other aa rd).1 rfl
      exact ⟨_, exec_movfpe clock aa rd⟩
    | movtpe rs aa =>
      have clock : s.par.hasEclock = true := runnable.resolve_left fun other => (other aa rs).2 rfl
      exact ⟨_, exec_movtpe clock rs aa⟩
    | eepmovW => exact execEepmovW_completes s
    | _ => exact ⟨_, rfl⟩
  · have clock : ¬ s.par.hasEclock = true := by rw [noClock]; decide
    exact ⟨if_neg clock, if_neg clock⟩

/-! ### TRAPA and RTE -/

/-- RTE (R503, R630). -/
theorem rte_effect (n : Addr) (s : State) : ∃ t, execRte s = .next t ∧ ReturnsFromException s n t := by
  refine ⟨s.returnFromException, rfl, wrote32_of ?_, rfl, ?_, fun a => ?_, ?_,
    s.seeW (low24 (s.reg32 .er7)), State.seeW_par s _, seeW_record s _, ?_⟩
  · simp [State.returnFromException]
  · unfold State.returnFromException
    cases s.par.mode <;> exact State.pcForm_congr (by simp) _
  · simp [State.returnFromException]
  · unfold State.returnFromException
    exact sameControl_of (by simp) (by simp) (by simp) (by simp) (by simp) (by simp)
  · have second := seeW_record (s.seeW (low24 (s.reg32 .er7))) (low24 (s.reg32 .er7 + 2#32))
    rw [State.wordAddr_seeW] at second
    exact recordRead_congr second rfl rfl rfl rfl rfl

/-- Settles O47: each of the two is one of the shared operations on exceptions. -/
theorem trapAndReturn : Obligations.TrapAndReturn :=
  ⟨fun s x => ⟨_, rfl, exceptionEntry_effect (8#8 + x.setWidth 8) (s.next 2) s⟩, fun s => rte_effect _ s⟩

/-! ### The vectors of TRAPA -/

/-- An address below H'010000 is the same in both modes (R80). -/
theorem State.red_of_low (s : State) {a : Addr} (low : a.toNat < 2 ^ 16) : s.red a = a := by
  unfold State.red
  split
  · apply BitVec.eq_of_toNat_eq
    rw [BitVec.toNat_and]
    exact (Nat.and_two_pow_sub_one_eq_mod a.toNat 16).trans (Nat.mod_eq_of_lt low)
  · rfl

theorem even_of_toNat {a : Addr} (h : a.toNat % 2 = 0) : even a = a := by
  rw [even_eq_self_iff, BitVec.getLsbD, Nat.testBit_zero, h]
  rfl

theorem State.wordAddr_of_low (s : State) {a : Addr} (low : a.toNat < 2 ^ 16) (h : a.toNat % 2 = 0) :
    s.wordAddr a = a := by
  rw [State.wordAddr, s.red_of_low low, even_of_toNat h]

/-- In ordinary memory the word at a low even address is the byte there and the next one, in both modes (R82). -/
theorem State.loadW_of_low (all : s.AllMemory) {a : Addr} {n m : Nat} (number : a.toNat = n) (low : n < 2 ^ 16)
    (h : n % 2 = 0) (next : m = n + 1) : s.loadW a = s.mem.get n ++ s.mem.get m := by
  subst number next
  have successor : (a + 1#24).toNat = a.toNat + 1 := by
    rw [BitVec.toNat_add, BitVec.toNat_ofNat]
    omega
  rw [State.loadW_allMemory all, s.wordAddr_of_low low h, s.red_of_low (by omega), successor]

/-- A normal-mode vector as an address: 16 bits (R604). -/
theorem setWidth_word_append (b0 b1 : Byte) : (b0 ++ b1 : Word).setWidth 24 = 0x00#8 ++ b0 ++ b1 := by
  rw [BitVec.append_assoc]
  exact BitVec.setWidth_eq_append (by decide)

/-- An advanced-mode vector as an address: its first byte is ignored (R604). -/
theorem setWidth_long_append (b0 b1 b2 b3 : Byte) :
    ((b0 ++ b1 : Word) ++ (b2 ++ b3 : Word) : Long).setWidth 24 = b1 ++ b2 ++ b3 := by
  have lowByte : (b0 ++ b1 : Word).setWidth 8 = b1 := BitVec.setWidth_append_eq_right
  rw [BitVec.append_assoc (x₁ := b1)]
  exact (BitVec.setWidth_append_of_eq rfl).trans (congrArg (· ++ (b2 ++ b3 : Word)) lowByte)

/-- Settles O48: the vectors stand at low even addresses in both modes. -/
theorem trapVectors : Obligations.TrapVectors := by
  intro s x all k
  have small : x.toNat < 4 := x.isLt
  have number : k.toNat = 8 + x.toNat := by
    rw [BitVec.toNat_add, BitVec.toNat_ofNat, BitVec.toNat_setWidth]
    omega
  refine ⟨number, ?_⟩
  cases mode : s.par.mode with
  | normal =>
    have address : (s.vectorAddr k).toNat = 0x0010 + 2 * x.toNat := by
      rw [State.vectorAddr, mode, BitVec.toNat_mul, BitVec.toNat_setWidth, number, BitVec.toNat_ofNat]
      omega
    have word : s.loadW (s.vectorAddr k) = s.mem.get (0x0010 + 2 * x.toNat) ++ s.mem.get (0x0011 + 2 * x.toNat) :=
      State.loadW_of_low all address (by omega) (by omega) (by omega)
    refine ⟨address, ?_⟩
    rw [State.loadPointer, mode]
    dsimp only
    rw [word, setWidth_word_append]
  | advanced =>
    have address : (s.vectorAddr k).toNat = 0x000020 + 4 * x.toNat := by
      rw [State.vectorAddr, mode, BitVec.toNat_mul, BitVec.toNat_setWidth, number, BitVec.toNat_ofNat]
      omega
    have second : (s.vectorAddr k + 2#24).toNat = 0x000022 + 4 * x.toNat := by
      rw [BitVec.toNat_add, BitVec.toNat_ofNat]
      omega
    have upperWord : s.loadW (s.vectorAddr k) =
        s.mem.get (0x000020 + 4 * x.toNat) ++ s.mem.get (0x000021 + 4 * x.toNat) :=
      State.loadW_of_low all address (by omega) (by omega) (by omega)
    have lowerWord : s.loadW (s.vectorAddr k + 2#24) =
        s.mem.get (0x000022 + 4 * x.toNat) ++ s.mem.get (0x000023 + 4 * x.toNat) :=
      State.loadW_of_low all second (by omega) (by omega) (by omega)
    refine ⟨address, ?_⟩
    rw [State.loadPointer, mode]
    dsimp only
    rw [State.loadL, s.wordAddr_of_low (by omega) (by omega), upperWord, lowerWord, setWidth_long_append]

/-! ### The frame of an exception, read back -/

theorem even_eq_shift (a : Addr) : even a = a >>> 1 <<< 1 := by
  have mask : 0xFFFFFE#24 = ~~~1#24 := rfl
  rw [even, mask]
  ext k hk
  cases k with
  | zero => simp
  | succ k =>
    rw [BitVec.getElem_and, BitVec.getElem_not]
    simp [BitVec.getLsbD_eq_getElem, hk, Nat.add_comm 1]

theorem toNat_even (a : Addr) : (even a).toNat = a.toNat / 2 * 2 := by
  rw [even_eq_shift, BitVec.toNat_shiftLeft, BitVec.toNat_ushiftRight, Nat.shiftLeft_eq, Nat.shiftRight_eq_div_pow]
  omega

/-- The next word of an odd address is that of the even address below it (R88). -/
theorem State.wordAddr_add_two (s : State) (a : Addr) :
    s.wordAddr (s.wordAddr a + 2#24) = s.wordAddr (a + 2#24) := by
  have added (b : Addr) : even (even b + 2#24) = even (b + 2#24) := by
    apply BitVec.eq_of_toNat_eq
    simp only [toNat_even, BitVec.toNat_add, BitVec.toNat_ofNat]
    omega
  calc s.wordAddr (s.wordAddr a + 2#24)
      = s.red (even (even (s.red a) + 2#24)) := (s.red_even _).symm
    _ = even (s.red (s.red a + 2#24)) := by rw [added, s.red_even]
    _ = s.wordAddr (a + 2#24) := by rw [s.red_red_add]; rfl

/-- The two words of a frame stand at different addresses, also where SP is odd or the frame wraps (R85, R88). -/
theorem wordAddr_low24_add_two_ne (s : State) (sp : Long) :
    s.wordAddr (low24 (sp + 2#32)) ≠ s.wordAddr (low24 sp) := by
  rw [low24_add sp 2, ← s.wordAddr_add_two]
  exact s.wordAddr_add_two_ne _

/-- CCR is in the word at SP, and the low word of the return address in the one above it (R610, R611). -/
theorem PushedFrame.loadW_eq {ret : Addr} (all : s.AllMemory) (par : u.par = s.par) (h : PushedFrame ret s u) :
    u.loadW (low24 (s.reg32 .er7 - 4#32)) = s.ccr ++ s.frameByte ret ∧
      u.loadW (low24 (s.reg32 .er7 - 4#32 + 2#32)) = ret.extractLsb' 0 16 := by
  obtain ⟨v, vpar, first, second⟩ := h
  have vall : v.AllMemory := all.congr vpar
  have upar : u.par = v.par := par.trans vpar.symm
  rw [← upper_extract, ← lower_extract] at first
  have ccr : some s.ccr = upper (s.ccr ++ s.frameByte ret) :=
    congrArg some BitVec.extractLsb'_append_eq_left.symm
  have beside : some (s.frameByte ret) = lower (s.ccr ++ s.frameByte ret) :=
    congrArg some BitVec.extractLsb'_append_eq_right.symm
  have written : StoredW (v.wordAddr (low24 (s.reg32 .er7 - 4#32))) (upper (s.ccr ++ s.frameByte ret))
      (lower (s.ccr ++ s.frameByte ret)) v u := by
    rw [← ccr, ← beside, State.wordAddr_congr vpar]
    exact second
  refine ⟨written.loadW_same vall upar, ?_⟩
  rw [written.loadW_ne vall upar (wordAddr_low24_add_two_ne v _).symm, first.loadW_same all vpar]

/-- An address is its upper byte and its lower word. -/
theorem append_extract (n : Addr) : n.extractLsb' 16 8 ++ n.extractLsb' 0 16 = n :=
  (BitVec.extractLsb'_append_extractLsb'_eq_extractLsb' (Nat.zero_add 16).symm).trans BitVec.extractLsb'_eq_self

/-- In ordinary memory RTE pops the frame that the entry of an exception pushed. -/
theorem Entered.rte {k : Byte} {ret : Addr} (all : s.AllMemory) (h : Entered k ret s t) :
    ∃ u, exec .rte t = .next u ∧ u.pc = s.pcForm ret ∧ SameRegs s u ∧ u.ccr = s.ccr := by
  obtain ⟨v, vpar, -, pushed, kept, wrote, -, -, -, -, -, -, -, -, -, par, -⟩ := h
  have read (a : Addr) : t.loadW a = v.loadW a :=
    State.loadW_congr_allMemory (all.congr vpar) (par.trans vpar.symm) kept a
  obtain ⟨upperWord, lowerWord⟩ := pushed.loadW_eq all vpar
  obtain ⟨u, returned, popped, ccr, pc, -⟩ := rte_effect (t.nextPc .rte) t
  rw [wrote.1, BitVec.sub_add_cancel] at popped
  rw [wrote.1, read, upperWord, BitVec.extractLsb'_append_eq_left] at ccr
  rw [wrote.1, read, read, upperWord, lowerWord, BitVec.extractLsb'_append_eq_right, State.pcForm_congr par, par] at pc
  refine ⟨u, returned, pc.trans ?_, wrote.sameRegs popped, ccr⟩
  cases mode : s.par.mode with
  | normal => exact State.pcForm_extract mode ret
  | advanced =>
    rw [State.frameByte, mode]
    exact congrArg s.pcForm (append_extract ret)

/-- Settles O49: RTE needs of an entry its frame only, and the address saved is one in the form PC is stored in. -/
theorem trapReturns : Obligations.TrapReturns := by
  refine ⟨fun s x all => ?_, fun s k all formed => ?_⟩
  · obtain ⟨u, returned, pc, regs, ccr⟩ := (exceptionEntry_effect (8#8 + x.setWidth 8) (s.next 2) s).rte all
    exact ⟨_, u, rfl, returned, pc.trans (s.pcForm_pcForm _), regs, ccr⟩
  · obtain ⟨u, returned, pc, regs, ccr⟩ := (exceptionEntry_effect k s.pc s).rte all
    exact ⟨u, returned, pc.trans formed, regs, ccr⟩

/-! ### NOP -/

/-- Settles O51: that no other second byte is assigned is part of O9. -/
theorem nopOnlyAdvances : Obligations.NopOnlyAdvances := by
  obtain ⟨unassigned, -⟩ := unassignedCodes
  exact ⟨fun _ => rfl, rfl, decode_of_encode rfl rfl, unassigned, fun _ _ => ⟨rfl, rfl⟩⟩

/-! ### LDC, ANDC, ORC, XORC and STC -/

/-- Settles O52: each form is the shared write of CCR, from memory through the shared load. -/
theorem ccrWrites : Obligations.CcrWrites := by
  intro s
  exact ⟨fun imm => writeCcr_effect imm 2 s, fun rs => writeCcr_effect (s.reg8 rs) 2 s,
    fun imm => writeCcr_effect (s.ccr &&& imm) 2 s, fun imm => writeCcr_effect (s.ccr ||| imm) 2 s,
    fun imm => writeCcr_effect (s.ccr ^^^ imm) 2 s,
    fun ers => runs_of_effect (loadCcr_effect (.ind ers)) rfl,
    fun d ers => runs_of_effect (loadCcr_effect (.disp16 d ers)) rfl,
    fun d ers => runs_of_effect (loadCcr_effect (.disp24 d ers)) rfl,
    fun ers => runs_of_effect (loadCcr_effect (.inc ers)) rfl,
    fun aa => runs_of_effect (loadCcr_effect (.abs16 aa)) rfl,
    fun aa => runs_of_effect (loadCcr_effect (.abs24 aa)) rfl⟩

/-- STC to a register (R508). -/
theorem stcReg_effect (rd : R8) (s : State) : Runs (.stcReg rd) s (Gives Wrote8 rd s.ccr SameCcr) :=
  ⟨_, by cases rd <;> rfl, gives8 s rd s.ccr s.ccr _ _ fun _ h => h⟩

/-- Settles O53: the forms to memory are one shared store. -/
theorem ccrReads : Obligations.CcrReads := by
  intro s
  exact ⟨fun rd => stcReg_effect rd s, fun erd => runs_of_effect (storeCcr_effect (.ind erd)) rfl,
    fun d erd => runs_of_effect (storeCcr_effect (.disp16 d erd)) rfl,
    fun d erd => runs_of_effect (storeCcr_effect (.disp24 d erd)) rfl,
    fun erd => runs_of_effect (storeCcr_effect (.dec erd)) rfl,
    fun aa => runs_of_effect (storeCcr_effect (.abs16 aa)) rfl,
    fun aa => runs_of_effect (storeCcr_effect (.abs24 aa)) rfl⟩

end Sys2Proof.Machine

/-! O55 and O56: block transfer. A transfer of `n + 1` bytes is one of one byte and then one of `n`, so what has to be
shown of the model is what it does with one byte and with its counter. -/

namespace Sys2Proof.Machine

variable {s t u : State} {k n : Nat}

/-! ### Transfers put together -/

theorem CopiedBlock.zero (s : State) : CopiedBlock 0 s s :=
  ⟨by simp, by simp, fun _ _ _ _ => rfl, rfl, ⟨rfl, rfl, rfl, rfl, rfl, rfl⟩, fun _ _ => rfl,
    fun _ => ⟨⟨rfl, rfl⟩, fun _ => rfl⟩⟩

/-- The second transfer starts from the addresses where the first ended. -/
theorem CopiedBlock.cons (one : CopiedBlock 1 s t) (more : CopiedBlock n t u) : CopiedBlock (n + 1) s u := by
  obtain ⟨src, dst, others, ccr, control, outside, exactly⟩ := one
  obtain ⟨src', dst', others', ccr', control', outside', exactly'⟩ := more
  have par : t.par = s.par := control.samePlatform.par
  have stepped (x : Long) (j : Nat) : x + BitVec.ofNat 32 1 + BitVec.ofNat 32 j = x + BitVec.ofNat 32 (j + 1) := by
    rw [BitVec.add_assoc, ← BitVec.ofNat_add, Nat.add_comm]
  refine ⟨by rw [src', src, stepped], by rw [dst', dst, stepped],
    fun m h4 h5 h6 => (others' m h4 h5 h6).trans (others m h4 h5 h6), ccr'.trans ccr, control.trans control',
    fun a away => ?_, fun all => ?_⟩
  · have first : t.mem.get a = s.mem.get a :=
      outside a fun j hj => by rw [Nat.lt_one_iff.1 hj]; exact away 0 n.succ_pos
    rw [← first]
    refine outside' a fun j hj => ?_
    rw [State.red_congr par, dst, stepped]
    exact away (j + 1) (Nat.succ_lt_succ hj)
  · obtain ⟨⟨bus, draws⟩, bytes⟩ := exactly all
    obtain ⟨⟨bus', draws'⟩, bytes'⟩ := exactly' (all.congr par)
    have red : t.red = s.red := funext (State.red_congr par)
    refine ⟨⟨bus'.trans bus, draws'.trans draws⟩, fun a => ?_⟩
    rw [bytes' a, red, src, dst, funext bytes]
    rfl

/-- Reads before a transfer are no part of it. -/
theorem CopiedBlock.of_reads (regs : u.regs = s.regs) (ccr : u.ccr = s.ccr) (mem : u.mem = s.mem)
    (control : SameControl s u) (record : s.AllMemory → SameRecord s u) (h : CopiedBlock k u t) :
    CopiedBlock k s t := by
  have par : u.par = s.par := control.samePlatform.par
  have red : u.red = s.red := funext (State.red_congr par)
  unfold CopiedBlock at h ⊢
  rw [red, mem, ccr] at h
  simp only [State.reg32_congr regs] at h
  obtain ⟨src, dst, others, tccr, tcontrol, outside, exactly⟩ := h
  refine ⟨src, dst, others, tccr, control.trans tcontrol, outside, fun all => ?_⟩
  obtain ⟨bus, draws⟩ := record all
  obtain ⟨⟨bus', draws'⟩, bytes⟩ := exactly (all.congr par)
  exact ⟨⟨bus'.trans bus, draws'.trans draws⟩, bytes⟩

/-! ### The two reads before a transfer -/

theorem State.seeB_allMemory (all : s.AllMemory) (a : Addr) : s.seeB a = s := by
  rw [State.seeB, State.seen, State.kindAt_allMemory all]

theorem State.dummyReads_allMemory (all : s.AllMemory) : s.dummyReads = s := by
  rw [State.dummyReads, State.seeB_allMemory all, State.seeB_allMemory all]

theorem dummyReads_regs (s : State) : s.dummyReads.regs = s.regs := by
  simp [State.dummyReads]

/-- They leave nothing behind but the record of their cycles (R552). -/
theorem CopiedBlock.of_dummyReads (h : CopiedBlock k s.dummyReads t) : CopiedBlock k s t := by
  refine h.of_reads (dummyReads_regs s) (by simp [State.dummyReads]) (by simp [State.dummyReads]) ?_ fun all => ?_
  · unfold State.dummyReads
    exact sameControl_of (by simp) (by simp) (by simp) (by simp) (by simp) (by simp)
  · rw [State.dummyReads_allMemory all]
    exact ⟨rfl, rfl⟩

/-! ### One byte -/

theorem copyByte_reg32 (s : State) (m : ER) : s.copyByte.reg32 m =
    if m = .er6 then s.reg32 .er6 + 1#32 else if m = .er5 then s.reg32 .er5 + 1#32 else s.reg32 m := by
  simp [State.copyByte, State.reg32_setReg32]

theorem copyByte_ccr (s : State) : s.copyByte.ccr = s.ccr := by
  simp [State.copyByte]

theorem copyByte_control (s : State) : SameControl s s.copyByte := by
  unfold State.copyByte
  exact sameControl_of (by simp) (by simp) (by simp) (by simp) (by simp) (by simp)

/-- Memory is written by one byte store. -/
theorem copyByte_mem (s : State) : s.copyByte.mem =
    ((s.seeB (low24 (s.reg32 .er5))).storeB (low24 (s.reg32 .er6)) (s.loadB (low24 (s.reg32 .er5)))).mem := rfl

theorem copyByte_get_ne {a : Nat} (away : a ≠ (s.red (low24 (s.reg32 .er6))).toNat) :
    s.copyByte.mem.get a = s.mem.get a := by
  rw [copyByte_mem, State.storeB_get_ne _ (by simpa using away), State.seeB_mem]

theorem copyByte_record (all : s.AllMemory) : SameRecord s s.copyByte := by
  unfold State.copyByte SameRecord
  simp [State.seeB_allMemory all, State.storeB, State.written, State.kindAt_allMemory all]

theorem copyByte_get (all : s.AllMemory) (a : Nat) :
    s.copyByte.mem.get a = copied s.red s.mem.get (s.reg32 .er5) (s.reg32 .er6) 1 a := by
  rw [copyByte_mem, State.seeB_allMemory all, copied, copied]
  split
  next here => rw [here, s.storeB_get_same (State.kindAt_allMemory all _), State.loadB_allMemory all]
  next away => exact s.storeB_get_ne away _

/-- One byte is copied, whatever is done to the counter in ER4 after it. -/
theorem copiedBlock_one (regs : ∀ m : ER, m ≠ .er4 → t.reg32 m = s.copyByte.reg32 m)
    (rest : Rest s.copyByte t) (ccr : t.ccr = s.copyByte.ccr) : CopiedBlock 1 s t := by
  refine ⟨?_, ?_, fun m h4 h5 h6 => ?_, ccr.trans (copyByte_ccr s), (copyByte_control s).trans rest.control,
    fun a away => ?_, fun all => ⟨?_, fun a => ?_⟩⟩
  · rw [regs _ (by decide), copyByte_reg32]
    rfl
  · rw [regs _ (by decide), copyByte_reg32]
    rfl
  · rw [regs m h4, copyByte_reg32, if_neg h6, if_neg h5]
  · rw [rest.mem]
    exact copyByte_get_ne (by simpa using away 0 Nat.one_pos)
  · obtain ⟨bus, draws⟩ := copyByte_record all
    exact ⟨rest.bus.trans bus, rest.draws.trans draws⟩
  · rw [rest.mem]
    exact copyByte_get all a

theorem copyBlockB_copied (n : Nat) (s : State) : CopiedBlock n s (s.copyBlockB n) := by
  induction n generalizing s with
  | zero => exact .zero s
  | succ n ih =>
    exact .cons (copiedBlock_one (fun _ h => State.reg32_setReg8_ne _ h _) (rest_setReg8 _ _ _)
      (State.setReg8_ccr _ _ _)) (ih _)

theorem copyBlockW_copied (n : Nat) (s : State) : CopiedBlock n s (s.copyBlockW n) := by
  induction n generalizing s with
  | zero => exact .zero s
  | succ n ih =>
    exact .cons (copiedBlock_one (fun _ h => State.reg32_setReg16_ne _ h _) (rest_setReg16 _ _ _)
      (State.setReg16_ccr _ _ _)) (ih _)

/-! ### The counter -/

/-- The copy itself does not touch the counter. -/
theorem copyByte_reg32_er4 (s : State) : s.copyByte.reg32 .er4 = s.reg32 .er4 := by
  rw [copyByte_reg32]
  rfl

theorem copyByte_reg8_l_er4 (s : State) : s.copyByte.reg8 (.l .er4) = s.reg8 (.l .er4) := by
  rw [State.reg8, copyByte_reg32_er4, State.reg8]

theorem copyByte_reg8_h_er4 (s : State) : s.copyByte.reg8 (.h .er4) = s.reg8 (.h .er4) := by
  rw [State.reg8, copyByte_reg32_er4, State.reg8]

theorem copyByte_reg16_r_er4 (s : State) : s.copyByte.reg16 (.r .er4) = s.reg16 (.r .er4) := by
  rw [State.reg16, copyByte_reg32_er4, State.reg16]

theorem copyByte_reg16_e_er4 (s : State) : s.copyByte.reg16 (.e .er4) = s.reg16 (.e .er4) := by
  rw [State.reg16, copyByte_reg32_er4, State.reg16]

theorem sub_one_sub_ofNat {w : Nat} (x : BitVec w) (n : Nat) :
    x - 1#w - BitVec.ofNat w n = x - BitVec.ofNat w (n + 1) := by
  rw [BitVec.sub_sub, ← BitVec.ofNat_add, Nat.add_comm]

/-- A register that has counted down what it held is zero. -/
theorem sub_ofNat_toNat {w : Nat} (x : BitVec w) : x - BitVec.ofNat w x.toNat = 0#w := by
  rw [BitVec.ofNat_toNat, BitVec.setWidth_eq, BitVec.sub_self]

/-- R4L counts the bytes down, and the rest of ER4 is as before (R550). -/
theorem copyBlockB_counter (n : Nat) (s : State) :
    (s.copyBlockB n).reg8 (.l .er4) = s.reg8 (.l .er4) - BitVec.ofNat 8 n ∧
      (s.copyBlockB n).reg8 (.h .er4) = s.reg8 (.h .er4) ∧ (s.copyBlockB n).reg16 (.e .er4) = s.reg16 (.e .er4) := by
  induction n generalizing s with
  | zero => simp [State.copyBlockB]
  | succ n ih =>
    obtain ⟨low, high, extended⟩ := ih (s.copyByte.setReg8 (.l .er4) (s.copyByte.reg8 (.l .er4) - 1#8))
    rw [State.copyBlockB, low, high, extended]
    simp [State.reg8_setReg8, copyByte_reg8_l_er4, copyByte_reg8_h_er4, copyByte_reg16_e_er4, sub_one_sub_ofNat]

/-- R4 counts the bytes down, and E4 is as before (R551). -/
theorem copyBlockW_counter (n : Nat) (s : State) :
    (s.copyBlockW n).reg16 (.r .er4) = s.reg16 (.r .er4) - BitVec.ofNat 16 n ∧
      (s.copyBlockW n).reg16 (.e .er4) = s.reg16 (.e .er4) := by
  induction n generalizing s with
  | zero => simp [State.copyBlockW]
  | succ n ih =>
    obtain ⟨low, extended⟩ := ih (s.copyByte.setReg16 (.r .er4) (s.copyByte.reg16 (.r .er4) - 1#16))
    rw [State.copyBlockW, low, extended]
    simp [State.reg16_setReg16, copyByte_reg16_r_er4, copyByte_reg16_e_er4, sub_one_sub_ofNat]

/-! ### EEPMOV.B and EEPMOV.W -/

/-- A transfer leaves PC at its instruction. -/
theorem Still.advance_pc (h : Still s t) (k : Nat) : (t.advance k).pc = s.next k := State.next_congr h.pc h.par k

/-- Settles O55, from what is copied and what is counted. -/
theorem blockTransferBytes : Obligations.BlockTransferBytes := by
  intro s
  obtain ⟨low, high, extended⟩ := copyBlockB_counter (s.reg8 (.l .er4)).toNat s.dummyReads
  rw [State.reg8_congr (dummyReads_regs s), sub_ofNat_toNat] at low
  rw [State.reg8_congr (dummyReads_regs s)] at high
  rw [State.reg16_congr (dummyReads_regs s)] at extended
  have still := (dummyReads_still s).trans (copyBlockB_still (s.reg8 (.l .er4)).toNat _)
  exact ⟨_, rfl, (copyBlockB_copied _ s.dummyReads).of_dummyReads, low, high, extended, still.advance_pc 4⟩

/-- The transfer of EEPMOV.W, of all its bytes or of those up to an NMI (R551). -/
theorem transferW (k : Nat) (s : State) :
    CopiedBlock k s (s.dummyReads.copyBlockW k) ∧
      (s.dummyReads.copyBlockW k).reg16 (.r .er4) = s.reg16 (.r .er4) - BitVec.ofNat 16 k ∧
      (s.dummyReads.copyBlockW k).reg16 (.e .er4) = s.reg16 (.e .er4) := by
  obtain ⟨low, extended⟩ := copyBlockW_counter k s.dummyReads
  rw [State.reg16_congr (dummyReads_regs s)] at low extended
  exact ⟨(copyBlockW_copied k s.dummyReads).of_dummyReads, low, extended⟩

theorem blockNmi_eq_none {events : List HostEvent} {bytes : Nat}
    (h : ∀ k rest, events = .nmiDuringBlock k :: rest → k = 0 ∨ bytes < k) : blockNmi events bytes = none := by
  unfold blockNmi
  split
  next k rest =>
    have outside := h k rest rfl
    exact if_neg (by omega)
  next => rfl

theorem blockNmi_cons {bytes : Nat} {rest : List HostEvent} (first : 1 ≤ k) (last : k ≤ bytes) :
    blockNmi (.nmiDuringBlock k :: rest) bytes = some k := if_pos ⟨first, last⟩

theorem execEepmovW_of_none (h : blockNmi s.host (s.reg16 (.r .er4)).toNat = none) :
    execEepmovW s = .next ((s.dummyReads.copyBlockW (s.reg16 (.r .er4)).toNat).advance 4) := by
  rw [execEepmovW, h]

/-- An NMI ends the transfer, two words are fetched, and its vector is entered (R553, R610, log 24). -/
theorem execEepmovW_of_some (h : blockNmi s.host (s.reg16 (.r .er4)).toNat = some k) :
    execEepmovW s = .next ((((s.dummyReads.copyBlockW k).seeW (s.next 4)).seeW (s.next 4 + 2#24)).exceptionEntry
      (s.vectorOf .nmi) (s.next 4)) := by
  rw [execEepmovW, h]

theorem recordReads_seeW_seeW (s : State) (a b : Addr) : RecordReads [a, b] s ((s.seeW a).seeW b) :=
  (recordReads_seeW s a).append (s.seeW_par a) (recordReads_seeW (s.seeW a) b)

theorem seeW_seeW_eq (s : State) (a b : Addr) : (s.seeW a).seeW b =
    { s with bus := ((s.seeW a).seeW b).bus, draws := ((s.seeW a).seeW b).draws } := by
  conv_lhs => rw [(s.seeW a).seeW_eq b]
  simp

/-- Settles O56: without an NMI the transfer is the whole instruction; with one the entry follows it. -/
theorem blockTransferWords : Obligations.BlockTransferWords := by
  refine ⟨fun s noNmi => ?_, fun s k rest nmi first last => ?_⟩
  · obtain ⟨copied, low, extended⟩ := transferW (s.reg16 (.r .er4)).toNat s
    have still := (dummyReads_still s).trans (copyBlockW_still (s.reg16 (.r .er4)).toNat _)
    exact ⟨_, execEepmovW_of_none (blockNmi_eq_none noNmi), copied, low.trans (sub_ofNat_toNat _), extended,
      still.advance_pc 4⟩
  · obtain ⟨copied, low, extended⟩ := transferW k s
    have arrived : blockNmi s.host (s.reg16 (.r .er4)).toNat = some k := by
      rw [nmi]
      exact blockNmi_cons first last
    exact ⟨_, execEepmovW_of_some arrived, _, _, copied, low, extended, recordReads_seeW_seeW _ _ _,
      seeW_seeW_eq _ _ _, exceptionEntry_effect _ _ _⟩

end Sys2Proof.Machine

/-! O1, O50, O54 and O57 to O59: interrupts, sleep and standby, and reset. Each clause is about a step in which the
host's entry either has an effect, and then that is the step, or has none, and then the processing state says what
the step is. -/

namespace Sys2Proof.Machine

variable {s t : State}

/-! ### Which requests are taken -/

/-- What the CPU asks of CCR before it takes a request is that the request is not masked (R621). -/
theorem State.accepts_iff (s : State) (r : Request) : s.accepts r = true ↔ Unmasked s r := by
  simp [State.accepts, Unmasked, or_assoc, and_assoc]

/-- A request is taken where it is looked for and not masked (R620, R621). -/
theorem State.takes_iff (s : State) (r : Request) : s.takes r = true ↔ Samples s r ∧ Unmasked s r := by
  unfold State.takes Samples
  cases s.pstate <;> simp [s.accepts_iff]

theorem respond_request_of_taken {r : Request} (samples : Samples s r) (unmasked : Unmasked s r) :
    s.respond (.request r) = some (s.enterInterrupt r.source) :=
  if_pos ((s.takes_iff r).2 ⟨samples, unmasked⟩)

theorem respond_request_of_not_taken {r : Request} (h : ¬ (Samples s r ∧ Unmasked s r)) :
    s.respond (.request r) = none :=
  if_neg fun taken => h ((s.takes_iff r).1 taken)

theorem respond_request_of_not_sampled {r : Request} (h : ¬ Samples s r) : s.respond (.request r) = none :=
  respond_request_of_not_taken fun ⟨samples, _⟩ => h samples

theorem respond_cons {e : HostEvent} {rest : List HostEvent} (h : s.host = e :: rest) :
    s.respond (s.host.headD .idle) = s.respond e := congrArg s.respond (headD_of_cons h)

/-- Where the host does nothing that has an effect, sleep and software standby go on. -/
theorem step_of_waiting (waiting : s.pstate = .sleep ∨ s.pstate = .softwareStandby)
    (ignored : s.respond (s.host.headD .idle) = none) : step s = .next s.tick := by
  obtain asleep | standby := waiting
  · exact step_of_stopped ignored (by simp [asleep]) (by simp [asleep])
  · exact step_of_stopped ignored (by simp [standby]) (by simp [standby])

/-! ### Interrupts -/

/-- Settles O58: a masked request is not taken, and one of an internal source not looked for in software standby. -/
theorem interruptMasked : Obligations.InterruptMasked := by
  refine ⟨fun s r rest request masked => ?_, fun s n r rest request internal standby => ?_⟩
  · have ignored : s.respond (s.host.headD .idle) = none :=
      (respond_cons request).trans (respond_request_of_not_taken fun ⟨_, unmasked⟩ => masked unmasked)
    exact ⟨fun running => step_eq_runInstruction running ignored,
      fun waiting => step_of_waiting waiting ignored⟩
  · have unsampled : ¬ Samples s r := by simp [Samples, standby, Request.external, internal]
    exact step_of_waiting (.inr standby)
      ((respond_cons request).trans (respond_request_of_not_sampled unsampled))

/-- The prefetch address is read in the program execution state only (R610, note *6). -/
theorem recordReads_entryRead (s : State) :
    RecordReads (if s.pstate = .programExecution then [s.pc + 2#24] else []) s s.entryRead := by
  unfold State.entryRead
  cases s.pstate with
  | programExecution => exact recordReads_seeW s _
  | exceptionHandling | sleep | softwareStandby | hardwareStandby | reset | busReleased => exact ⟨rfl, rfl⟩

theorem entryRead_eq (s : State) :
    s.entryRead = { s with bus := s.entryRead.bus, draws := s.entryRead.draws } := by
  unfold State.entryRead
  split
  · exact s.seeW_eq _
  · rfl

/-- An interrupt is a read, the entry of its vector, and the read of the first word of its handler (R610). -/
theorem enterInterrupt_eq (s : State) (source : Source) :
    s.enterInterrupt source = (s.entryRead.exceptionEntry (s.vectorOf source) s.pc).readAhead
      (s.entryRead.exceptionEntry (s.vectorOf source) s.pc).pc :=
  State.fetchDue_of_none (t := s.entryRead.exceptionEntry (s.vectorOf source) s.pc) rfl

/-- Settles O57, part by part of the entry. -/
theorem interruptAccepted : Obligations.InterruptAccepted := by
  intro s r rest request samples unmasked
  have taken := (respond_cons request).trans (respond_request_of_taken samples unmasked)
  rw [enterInterrupt_eq] at taken
  exact ⟨s.entryRead, _, _, step_of_respond taken, recordReads_entryRead s, entryRead_eq s,
    exceptionEntry_effect _ _ _, recordRead_readAhead _ _, State.readAhead_eq _ _⟩

/-! ### The end of reset exception handling -/

theorem step_exceptionHandling (handling : s.pstate = .exceptionHandling)
    (ignored : s.respond (s.host.headD .idle) = none) : step s = .next s.finishReset.tick := by
  rw [step, ignored, handling]

theorem finishReset_pstate (s : State) : s.finishReset.pstate = .programExecution := by
  rw [State.finishReset, State.fetchDue_pstate]
  rfl

theorem finishReset_irqInhibit (s : State) : s.finishReset.irqInhibit = true := by
  rw [State.finishReset, State.fetchDue_irqInhibit]
  rfl

theorem finishReset_regs (s : State) : s.finishReset.regs = s.resetRegisters.regs := by
  rw [State.finishReset, State.fetchDue_regs, State.inhibit_regs, State.enterVector_regs]

theorem finishReset_flag (s : State) (f : Flag) : s.finishReset.flag f = s.resetRegisters.flag f :=
  State.flag_congr (by rw [State.finishReset, State.fetchDue_ccr, State.inhibit_ccr, State.enterVector_ccr]) f

theorem finishReset_mem (s : State) : s.finishReset.mem = s.mem := by
  rw [State.finishReset, State.fetchDue_mem, State.inhibit_mem, State.enterVector_mem, resetRegisters_mem]

theorem resetRegisters_flag_i (s : State) : s.resetRegisters.flag .i = true := by
  unfold State.resetRegisters
  split <;> rw [State.flag_setFlag, if_pos rfl]

/-- Under WARM_RESET only I changes (R702). -/
theorem resetRegisters_of_warm (warm : s.par.warmReset = true) : s.resetRegisters = s.setFlag .i true := if_pos warm

theorem resetRegisters_par (s : State) : s.resetRegisters.par = s.par := (resetRegisters_samePlatform s).par

/-- A code address in ordinary memory is decided by memory and the parameters alone. -/
theorem State.loadPointer_congr_allMemory (all : s.AllMemory) (par : t.par = s.par) (memory : SameMemory s t)
    (a : Addr) : t.loadPointer a = s.loadPointer a := by
  unfold State.loadPointer State.loadL
  simp only [State.loadW_congr_allMemory all par memory, State.wordAddr_congr par, par]

theorem finishReset_pc (all : s.AllMemory) :
    s.finishReset.pc = s.pcForm (s.loadPointer (s.vectorAddr 0)) := by
  have par := resetRegisters_par s
  have memory : SameMemory s s.resetRegisters := sameMemory_of (resetRegisters_mem s)
  rw [State.finishReset, State.fetchDue_pc, State.inhibit_pc, State.enterVector]
  calc State.pcForm (s.resetRegisters.seePointer _) (s.resetRegisters.loadPointer (s.resetRegisters.vectorAddr 0))
      = s.pcForm (s.resetRegisters.loadPointer (s.resetRegisters.vectorAddr 0)) :=
        State.pcForm_congr (by rw [State.seePointer_par, par]) _
    _ = s.pcForm (s.loadPointer (s.vectorAddr 0)) := by
        rw [State.loadPointer_congr_allMemory all par memory, State.vectorAddr_congr par]

theorem finishReset_prefetch (all : s.AllMemory) : s.finishReset.prefetch = some (s.loadW s.finishReset.pc) := by
  let t := (s.resetRegisters.enterVector 0#8).inhibit
  have fetched : s.finishReset = t.readAhead t.pc := State.fetchDue_of_none (t := t) rfl
  have par : t.par = s.par := (State.enterVector_par _ _).trans (resetRegisters_par s)
  have mem : t.mem = s.mem := (State.enterVector_mem _ _).trans (resetRegisters_mem s)
  rw [fetched, State.readAhead_prefetch, State.readAhead_pc, State.loadW_congr_allMemory all par (sameMemory_of mem)]

/-! ### The inhibit -/

/-- Settles O54: with the inhibit set, and in exception handling, requests are not looked for. -/
theorem interruptInhibit : Obligations.InterruptInhibit := by
  refine ⟨fun s r rest running inhibited request => ⟨step_eq_runInstruction running ?_, s.started_irqInhibit⟩,
    fun s handling quiet => ⟨_, step_exceptionHandling handling ?_, finishReset_irqInhibit s, finishReset_pstate s⟩,
    fun s => ⟨_, rfl, ?_⟩, fun s x => ⟨_, rfl, s.exceptionEntry_irqInhibit _ _⟩, State.exceptionEntry_irqInhibit⟩
  · have unsampled : ¬ Samples s r := by simp [Samples, running, inhibited]
    rw [respond_cons request, respond_request_of_not_sampled unsampled]
  · obtain none | ⟨r, rest, request⟩ := quiet
    · rw [none]
      rfl
    · have unsampled : ¬ Samples s r := by simp [Samples, handling]
      rw [respond_cons request, respond_request_of_not_sampled unsampled]
  · simp [State.returnFromException]

/-! ### SLEEP and the quiescent end of a run -/

/-- What does not wake the CPU and is no bus request has no effect, but for a write of SSBY. -/
theorem respond_of_not_wakes {e : HostEvent} (stopped : s.pstate = .sleep ∨ s.pstate = .softwareStandby)
    (sleeps : ¬ Wakes s e) (noRequest : e ≠ .busRequest) :
    s.respond e = none ∨ ∃ b, e = .setSsby b ∧ s.respond e = some { s with ssby := b } := by
  cases e with
  | setSsby b => exact .inr ⟨b, rfl, rfl⟩
  | request r => exact .inl (respond_request_of_not_taken sleeps)
  | resLow | stbyLow => exact absurd trivial sleeps
  | busRequest => exact absurd rfl noRequest
  | idle | nmiDuringBlock => exact .inl rfl
  | resHigh | stbyHigh | busEnd | masterWrite =>
    left
    obtain asleep | standby := stopped
    · simp [State.respond, asleep]
    · simp [State.respond, standby]

theorem State.Quiescent.waiting (h : s.Quiescent) : s.pstate = .sleep ∨ s.pstate = .softwareStandby := h.1

/-- What the host does at a step of a quiescent run. -/
theorem State.Quiescent.respond (h : s.Quiescent) (noRequest : s.host.head? ≠ some .busRequest) :
    s.respond (s.host.headD .idle) = none ∨
      ∃ b, s.host.head? = some (.setSsby b) ∧ s.respond (s.host.headD .idle) = some { s with ssby := b } := by
  obtain ⟨stopped, sleeps⟩ := h
  cases host : s.host with
  | nil => exact .inl rfl
  | cons e rest =>
    have present : e ∈ s.host := by rw [host]; exact List.mem_cons_self
    have notBus : e ≠ .busRequest := fun same => noRequest (by rw [host, same, List.head?_cons])
    obtain ignored | ⟨b, rfl, written⟩ := respond_of_not_wakes stopped (sleeps e present) notBus
    · exact .inl ignored
    · exact .inr ⟨b, rfl, written.trans (by rw [host])⟩

/-- What wakes the CPU does not depend on SSBY, and the rest of a schedule has nothing that wakes it either. -/
theorem State.Quiescent.tail {b : Bool} {n : Nat} (h : s.Quiescent) :
    State.Quiescent { s with ssby := b, host := s.host.tail, draws := n } := by
  obtain ⟨stopped, sleeps⟩ := h
  refine ⟨stopped, fun e later => ?_⟩
  have notBefore := sleeps e (List.mem_of_mem_tail later)
  cases e <;> exact notBefore

/-- Settles O50: at a quiescent end the host has no effect but on SSBY. -/
theorem sleepStates : Obligations.SleepStates := by
  refine ⟨fun s => ⟨_, rfl, rfl⟩, fun s quiescent noRequest => ?_⟩
  obtain ignored | ⟨b, write, written⟩ := quiescent.respond noRequest
  · exact ⟨s.tick, s.ssby, step_of_waiting quiescent.waiting ignored, rfl, quiescent.tail, fun _ => rfl⟩
  · exact ⟨_, b, step_of_respond written, rfl, quiescent.tail, fun noWrite => absurd write (noWrite b)⟩

/-! ### Reset -/

/-- Settles O1: the reset vector of empty memory is 0. -/
theorem resetState : Obligations.ResetState := ⟨rfl, rfl, rfl, rfl⟩

theorem respond_resLow (awake : s.pstate ≠ .hardwareStandby) : s.respond .resLow = some s.enterReset := if_neg awake

theorem respond_resHigh (reset : s.pstate = .reset) :
    s.respond .resHigh = some { s with pstate := .exceptionHandling } := if_pos reset

theorem sameFlagsBut_setFlag (s : State) (f : Flag) (x : Bool) : SameFlagsBut [f] s (s.setFlag f x) := by
  intro g other
  rw [State.flag_setFlag, if_neg (List.mem_singleton.not.1 other)]

/-- What has no effect in the reset state (R643). -/
theorem respond_reset_none {e : HostEvent} (reset : s.pstate = .reset)
    (ineffective : e ∉ [.resLow, .resHigh, .stbyLow] ∧ ∀ b, e ≠ .setSsby b) : s.respond e = none := by
  obtain ⟨pins, noWrite⟩ := ineffective
  cases e with
  | resLow | resHigh | stbyLow => simp at pins
  | setSsby b => exact absurd rfl (noWrite b)
  | idle | nmiDuringBlock => rfl
  | request | stbyHigh | busRequest | busEnd | masterWrite =>
    simp [State.respond, State.takes, PState.busHolder?, reset]

/-- What has no effect in exception handling (R605, R622). -/
theorem respond_exceptionHandling_none {e : HostEvent} (handling : s.pstate = .exceptionHandling)
    (ineffective : e ∉ [.resLow, .stbyLow, .busRequest] ∧ ∀ b, e ≠ .setSsby b) : s.respond e = none := by
  obtain ⟨pins, noWrite⟩ := ineffective
  cases e with
  | resLow | stbyLow | busRequest => simp at pins
  | setSsby b => exact absurd rfl (noWrite b)
  | idle | nmiDuringBlock => rfl
  | request | resHigh | stbyHigh | busEnd | masterWrite =>
    simp [State.respond, State.takes, handling]

theorem step_reset (reset : s.pstate = .reset)
    (ineffective : ∀ e : HostEvent, s.host.head? = some e → s.respond e = none) : step s = .next s.tick :=
  step_of_stopped (respond_headD_eq_none ineffective) (by simp [reset]) (by simp [reset])

/-- Settles O59, in the order of the sequence: RES Low, the reset state, RES High, exception handling. -/
theorem resetSequence : Obligations.ResetSequence := by
  refine ⟨fun s rest low awake => ⟨_, step_of_host low (respond_resLow awake) rfl, rfl, enterReset_flag_i s,
      sameFlagsBut_setFlag s .i true, sameRegs_of rfl, rfl, rfl, rfl, rfl, rfl, rfl, rfl⟩,
    fun s reset ineffective => step_reset reset fun e first => respond_reset_none reset (ineffective e first),
    fun s rest high reset => ⟨_, step_of_host high (respond_resHigh reset) rfl, rfl⟩,
    fun s handling ineffective => ?_⟩
  have ignored := respond_headD_eq_none fun e first => respond_exceptionHandling_none handling (ineffective e first)
  refine ⟨_, step_exceptionHandling handling ignored, finishReset_pstate s, ?_, finishReset_irqInhibit s,
    finishReset_mem s, fun all => ⟨finishReset_pc all, finishReset_prefetch all⟩,
    fun warm => ⟨sameRegs_of ?_, fun f other => ?_⟩⟩
  · exact (finishReset_flag s .i).trans (resetRegisters_flag_i s)
  · rw [State.tick_regs, finishReset_regs, resetRegisters_of_warm warm, State.setFlag_regs]
  · rw [State.flag_tick, finishReset_flag, resetRegisters_of_warm warm]
    exact sameFlagsBut_setFlag s .i true f other

end Sys2Proof.Machine
